-- ==== Sys2Proof/Word.lean ====
section
/-! DEFINITION. The plain types of the NJ-4260: addresses, tags, lengths, the numbers of masters,
targets, planes, windows and ORT entries. -/

namespace Sys2Proof

/-- One byte of a frame. -/
abbrev Byte := BitVec 8

/-- A 48-bit byte address (00 Conventions). -/
abbrev Address := BitVec 48

/-- A master tag, 0 to 31, bits 4:0 of the tag byte (11.2). -/
abbrev Tag := BitVec 5

/-- The two-byte length field of a request (11.2). -/
abbrev LengthField := BitVec 16

/-- The 32-bit count of flips, compared by equality only (R2, R48). -/
abbrev Generation := BitVec 32

/-- Master ports M0 to M3. -/
abbrev Master := Fin 4

/-- Target ports T0 to T5. -/
abbrev Target := Fin 6

/-- Planes P0 and P1. -/
abbrev PlaneId := Fin 2

/-- Index of a window entry in a plane (R1). -/
abbrev WindowIndex := Fin 32

/-- Index of an ORT entry (R73). -/
abbrev OrtIndex := Fin 64

/-- Deadline classes D0 to D3 (R9). -/
abbrev DeadlineClass := Fin 4

end Sys2Proof
end

