-- ==== Sys2Proof/Syntax.lean ====
section
/-! DEFINITION. The commands of the NJ-4260, one constructor for each row of spec/opcode_table.json. -/

namespace Sys2Proof

/-- A command: one event of the part, whole and indivisible (95_what_each_step_holds.md). The control
operations have no operands here: they are carried out on the operation record of the Control Unit,
which holds the argument bytes of the CONTROL packet (R177). -/
inductive Instr
  /-- Rising edge of PWRON_N, with the levels of the strap pins (R193). -/
  | powerOn (mpresent : BitVec 4) (tpresent : BitVec 6) (admin : BitVec 4) (bootsz : BitVec 2)
  /-- PWRON_N low (R193). -/
  | pwronLow
  /-- A READ packet arrives (R49). -/
  | read (m : Master) (tag : Tag) (len : LengthField) (addr : Address)
  /-- A WRITE packet arrives with its data (R49). -/
  | write (m : Master) (tag : Tag) (len : LengthField) (addr : Address) (data : List Byte)
  /-- A FENCE packet arrives (R49). -/
  | fence (m : Master) (tag : Tag)
  /-- A CONTROL packet arrives with an operation code and argument bytes (R49). -/
  | control (m : Master) (tag : Tag) (op : Byte) (args : List Byte)
  /-- A LINK_UP arrives (R165). -/
  | linkUp (m : Master) (credits : Byte)
  /-- A CREDIT arrives (R142). -/
  | credit (m : Master) (returned : Byte)
  /-- A LINK_RESET arrives (R166). -/
  | linkReset (m : Master)
  /-- The physical master link fails (R167). -/
  | masterLinkLost (m : Master)
  /-- A malformed frame arrives on a master link (R190). -/
  | malformedMasterFrame (m : Master) (frame : List Byte)
  /-- A data head is routed (R54). -/
  | headRouting (m : Master)
  /-- A waiting claim of a data head or FENCE head is granted a slot (R136). -/
  | slotClaimGrant (m : Master)
  /-- A data head makes an admission attempt (R60). -/
  | admissionAttempt (m : Master)
  /-- An Ingress Unit takes the announcement that a port left UP (R67). -/
  | targetDownAnnouncement (m : Master) (t : Target)
  /-- A FENCE head is taken into the fence slot (R153). -/
  | fenceTake (m : Master)
  /-- The Control Unit takes a control head (R178). -/
  | controlTake
  /-- GET_WINDOW in execution (R18). -/
  | getWindow
  /-- PROBE in execution (R22). -/
  | probe
  /-- GET_PLANE_STATUS in execution (R182). -/
  | getPlaneStatus
  /-- GET_MASTER_STATUS in execution (R183). -/
  | getMasterStatus
  /-- GET_TARGET_STATUS in execution (R184). -/
  | getTargetStatus
  /-- GET_SETTINGS in execution (R185). -/
  | getSettings
  /-- CLAIM_EDIT in execution (R25). -/
  | claimEdit
  /-- RELEASE_EDIT in execution (R26). -/
  | releaseEdit
  /-- PUT_WINDOW in execution (R19, R20). -/
  | putWindow
  /-- REVERT_STAGED in execution (R21). -/
  | revertStaged
  /-- REQUEST_SWITCH in execution (R29). -/
  | requestSwitch
  /-- CANCEL_SWITCH in execution (R37). -/
  | cancelSwitch
  /-- SET_LEASE_PERIOD in execution (R186). -/
  | setLeasePeriod
  /-- SET_MASTER_LIMITS in execution (R187). -/
  | setMasterLimits
  /-- SET_DEADLINES in execution (R188). -/
  | setDeadlines
  /-- CLEAR_QUARANTINE in execution (R174). -/
  | clearQuarantine
  /-- RESET_TARGET in execution (R130). -/
  | resetTarget
  /-- An operation code outside the catalogue in execution (R181). -/
  | unknownOperation
  /-- The lease timer expires (R27). -/
  | leaseTimerExpiry
  /-- The drain limit timer expires (R36). -/
  | drainLimitExpiry
  /-- The Plane Controller takes a count decrement (R39). -/
  | planeCountDecrement (p : PlaneId)
  /-- The Plane Controller takes a flush report (R43, R44). -/
  | flushReport (m : Master)
  /-- An Issue Arbiter makes a grant (R106). -/
  | grantEvent (t : Target)
  /-- The physical target link is established (R116). -/
  | targetLinkDetected (t : Target)
  /-- The physical target link fails (R127). -/
  | targetLinkLost (t : Target)
  /-- A T_READY arrives (R117). -/
  | tReady (t : Target) (posted request : Byte)
  /-- A T_CREDIT arrives (R121). -/
  | tCredit (t : Target) (posted request : Byte)
  /-- A T_COMPLETE arrives (R79). -/
  | tComplete (t : Target) (tag : Byte) (status : Byte) (data : List Byte)
  /-- A T_ACCEPT arrives; its status byte is not read (R80). -/
  | tAccept (t : Target) (tag : Byte) (status : Byte)
  /-- A T_REJECT arrives; its status byte is not read (R80). -/
  | tReject (t : Target) (tag : Byte) (status : Byte)
  /-- A T_RETRY arrives (R81). -/
  | tRetry (t : Target) (tag : Byte)
  /-- A malformed frame arrives on a target link (R192). -/
  | malformedTargetFrame (t : Target) (frame : List Byte)
  /-- The deadline of an entry expires (R76). -/
  | deadlineExpiry (i : OrtIndex)
  /-- The lapse end of an entry is reached (R85). -/
  | lapseEnd (i : OrtIndex)
  /-- The backoff timer of an entry expires (R82). -/
  | backoffEnd (i : OrtIndex)
  /-- The stall timer of a master expires (R171). -/
  | stallExpiry (m : Master)
  /-- A transmitter makes a send event (R144). -/
  | sendEvent (m : Master)
  deriving DecidableEq, Repr

end Sys2Proof
end

