-- ==== Sys2Proof/Decode.lean ====
section
/-! DEFINITION. The frames that travel toward the part (11.2, 11.3): little-endian fields, the decoder of
a master link frame and of a target link frame, their encoders, and decodeTableWord. -/

namespace Sys2Proof

/-- The `k` bytes of a number, least significant byte first (11.1). -/
def leBytes : Nat → Nat → List Byte
  | 0, _ => []
  | k + 1, n => BitVec.ofNat 8 n :: leBytes k (n / 256)

/-- The number a run of bytes holds, least significant byte first (11.1). -/
def leNat : List Byte → Nat
  | [] => 0
  | b :: bs => b.toNat + 256 * leNat bs

/-- The field of `k` bytes that begins at byte `i` of a frame or record. -/
def leField (frame : List Byte) (i k : Nat) : Nat := leNat ((frame.drop i).take k)

/-- The tag byte: the master tag in bits 4:0, bits 7:5 zero (11.2). -/
def tagByte (tag : Tag) : Byte := tag.setWidth 8

/-- The master tag of a tag byte; bits 7:5 are not read (11.2). -/
def tagOf (b : Byte) : Tag := b.setWidth 5

/-- The index of a target tag, bits 7:2 (R74, 11.3). -/
def targetTagIndex (b : Byte) : OrtIndex := ⟨b.toNat / 4, by omega⟩

/-- The reuse count of a target tag, bits 1:0 (R74, 11.3). -/
def targetTagReuse (b : Byte) : BitVec 2 := b.setWidth 2

/-- The target tag of an entry: index in bits 7:2, reuse count in bits 1:0 (R74, 11.3). -/
def targetTag (i : OrtIndex) (reuse : BitVec 2) : Byte := BitVec.ofNat 8 (4 * i.val + reuse.toNat)

/-- The data a WRITE carries has the length its length field asks for: that length from 1 to 256, and no
data outside that range (11.2, R190). -/
def writeDataFits (len : LengthField) (data : List Byte) : Bool :=
  if 1 ≤ len.toNat ∧ len.toNat ≤ 256 then data.length == len.toNat else data.isEmpty

/-- What a frame on master link `m` is, by its kind code and size (11.2). A frame that is no packet of
the table toward the part is malformed (R190). Bytes shown as zero are not read (11.1). -/
def decodeMasterFrame (m : Master) (frame : List Byte) : Instr :=
  match frame with
  | 0x01#8 :: tag :: rest =>
    if rest.length = 10 then
      .read m (tagOf tag) (BitVec.ofNat 16 (leField rest 0 2)) (BitVec.ofNat 48 (leField rest 2 6))
    else .malformedMasterFrame m frame
  | 0x02#8 :: tag :: rest =>
    if 10 ≤ rest.length ∧ writeDataFits (BitVec.ofNat 16 (leField rest 0 2)) (rest.drop 10) then
      .write m (tagOf tag) (BitVec.ofNat 16 (leField rest 0 2)) (BitVec.ofNat 48 (leField rest 2 6))
        (rest.drop 10)
    else .malformedMasterFrame m frame
  | [0x03#8, tag, _, _] => .fence m (tagOf tag)
  | 0x04#8 :: tag :: op :: count :: args =>
    if args.length = count.toNat then .control m (tagOf tag) op args
    else .malformedMasterFrame m frame
  | [0x10#8, credits] => .linkUp m credits
  | [0x11#8, returned] => .credit m returned
  | [0x12#8] => .linkReset m
  | _ => .malformedMasterFrame m frame

/-- The frame of a master link command, its unread bytes and bits zero (11.2); none for a command that
is no packet. -/
def encodeMasterFrame : Instr → Option (List Byte)
  | .read _ tag len addr =>
    some (0x01#8 :: tagByte tag :: leBytes 2 len.toNat ++ leBytes 6 addr.toNat ++ [0, 0])
  | .write _ tag len addr data =>
    some (0x02#8 :: tagByte tag :: leBytes 2 len.toNat ++ leBytes 6 addr.toNat ++ [0, 0] ++ data)
  | .fence _ tag => some [0x03#8, tagByte tag, 0, 0]
  | .control _ tag op args =>
    some (0x04#8 :: tagByte tag :: op :: BitVec.ofNat 8 args.length :: args)
  | .linkUp _ credits => some [0x10#8, credits]
  | .credit _ returned => some [0x11#8, returned]
  | .linkReset _ => some [0x12#8]
  | .malformedMasterFrame _ frame => some frame
  | _ => none

/-- The credit class of a malformed master frame: data for the kinds READ, WRITE and FENCE, control for
CONTROL, none for every other kind (R190). -/
inductive FrameQueue
  | data
  | control
  | neither
  deriving DecidableEq, Repr

/-- The queue named by the kind code of a frame (R190). -/
def frameQueue (frame : List Byte) : FrameQueue :=
  match frame.head? with
  | some 0x01#8 | some 0x02#8 | some 0x03#8 => .data
  | some 0x04#8 => .control
  | _ => .neither

/-- What a frame on target link `t` is, by its kind code and size (11.3). A T_COMPLETE whose data length
exceeds 256 or disagrees with its data is malformed, as is every frame that is no message toward the
part (R192). -/
def decodeTargetFrame (t : Target) (frame : List Byte) : Instr :=
  match frame with
  | [0x20#8, posted, request] => .tReady t posted request
  | [0x21#8, posted, request] => .tCredit t posted request
  | 0x22#8 :: tag :: status :: _ :: lo :: hi :: data =>
    if leNat [lo, hi] ≤ 256 ∧ data.length = leNat [lo, hi] then .tComplete t tag status data
    else .malformedTargetFrame t frame
  | [0x23#8, tag, status] => .tAccept t tag status
  | [0x24#8, tag, status] => .tReject t tag status
  | [0x25#8, tag] => .tRetry t tag
  | _ => .malformedTargetFrame t frame

/-- The frame of a target link command, its unread bytes zero (11.3); none for a command that is no
message toward the part. -/
def encodeTargetFrame : Instr → Option (List Byte)
  | .tReady _ posted request => some [0x20#8, posted, request]
  | .tCredit _ posted request => some [0x21#8, posted, request]
  | .tComplete _ tag status data =>
    some (0x22#8 :: tag :: status :: 0 :: leBytes 2 data.length ++ data)
  | .tAccept _ tag status => some [0x23#8, tag, status]
  | .tReject _ tag status => some [0x24#8, tag, status]
  | .tRetry _ tag => some [0x25#8, tag]
  | .malformedTargetFrame _ frame => some frame
  | _ => none

/-- A malformed frame of a T_READY or T_CREDIT counts as a credit fault, any other as stale (R192). -/
def frameCountsCreditFault (frame : List Byte) : Bool :=
  match frame.head? with
  | some 0x20#8 | some 0x21#8 => true
  | _ => false

/-- The command a table word spells: the opcode table gives no row any bits, so none. -/
def decodeTableWord (_nbits _w : Nat) : Option Instr := none

end Sys2Proof
end

