-- ==== Sys2Proof/Config.lean ====
section
/-! DEFINITION. What the spec leaves open and the model does not choose (free values, without a body),
and the strap values State.reset is built with. -/

namespace Sys2Proof

/-- The straps, as they stand on the pins or as they were sampled (11.6). -/
structure Straps where
  mpresent : BitVec 4
  tpresent : BitVec 6
  admin    : BitVec 4
  bootsz   : BitVec 2
  deriving DecidableEq, Repr

/-- No strap set: what is held while PWRON_N is low (DESIGN CHOICE, log 5). -/
def Straps.none : Straps := ⟨0, 0, 0, 0⟩

/-- The straps of State.reset: every port present, every master admin, the 16 MiB boot window
(DESIGN CHOICE, log 4; unsafe). POWER_ON samples any other straps. -/
def Config.resetStraps : Straps := ⟨0xF, 0x3F, 0xF, 0⟩

/-- The choice a step on an empty queue makes among the events that are ready (free value, log 3). -/
opaque Config.freeChoice : Nat → Nat

/-- The order in which the waiting data heads resume when the Plane Controller leaves HOLDING (free value,
log 26). -/
opaque Config.resumeOrder : Nat → Nat

/-- The number by which a BAD_ARGUMENT record names the first argument of an operation; the later
arguments follow it (free value, log 6: section 11.4 names arguments "by their position" only). -/
opaque Config.firstArgumentPosition : Nat

/-- The byte of the settled indication of R47 (free value, log 7). -/
opaque Config.settledByte : Bool → Byte

end Sys2Proof
end

