-- ==== Sys2Proof/Machine/Types.lean ====
section
/-! DEFINITION. The types of the pieces of state: window entries, packets, responses, result records,
notices, ORT entries, ports, the Control Unit and the Plane Controller's state. -/

namespace Sys2Proof.Machine

/-! ## The window map (chapter 1) -/

/-- The ordering class of a window entry (R7) and the ordering class recorded in an ORT entry (R101). -/
inductive OrderClass
  | posted
  | strict
  | relaxed
  deriving DecidableEq, Repr

/-- The access of one master in a window (R8). -/
inductive Access
  | none
  | read
  | readWrite
  deriving DecidableEq, Repr

/-- A window entry (section 1.2). The size is 2 to the power `sizeExp`; `sizeExp = 0` means no size. -/
structure Window where
  enabled       : Bool
  base          : Address
  sizeExp       : Nat
  target        : Target
  translation   : Option Address
  cls           : OrderClass
  access        : Vector Access 4
  deadlineClass : DeadlineClass
  retryBudget   : Fin 16
  deriving DecidableEq, Repr

/-- One plane: 32 window entries (R1). -/
abbrev Plane := Vector Window 32

/-- The kind of an ORT entry (R7). -/
inductive Kind
  | read
  | writeNp
  | writeP
  deriving DecidableEq, Repr

/-- The routing of R16, held by a ROUTED head and reported by PROBE. -/
structure Routing where
  plane         : PlaneId
  generation    : Generation
  window        : WindowIndex
  target        : Target
  address       : Address
  cls           : OrderClass
  deadlineClass : DeadlineClass
  retryBudget   : Fin 16
  deriving DecidableEq, Repr

/-- The result of a lookup (R14 to R16). SPAN and NO_ACCESS carry the window they found (R15). -/
inductive Lookup
  | noWindow
  | span (r : Routing)
  | noAccess (r : Routing)
  | hit (r : Routing)
  deriving DecidableEq, Repr

/-! ## Packets, statuses and result codes -/

/-- A packet of a data ingress queue (R49). -/
inductive DataPacket
  | read (tag : Tag) (len : LengthField) (addr : Address)
  | write (tag : Tag) (len : LengthField) (addr : Address) (data : List Byte)
  | fence (tag : Tag)
  deriving DecidableEq, Repr

/-- A CONTROL packet of a control ingress queue (R49). -/
structure ControlPacket where
  tag  : Tag
  op   : Byte
  args : List Byte
  deriving DecidableEq, Repr

/-- The status of READ_DONE and WRITE_DONE and the reason of POSTED_FAIL (11.1). -/
inductive Status
  | ok
  | badLength
  | noWindow
  | span
  | noAccess
  | targetDown
  | tagInUse
  | timeout
  | retryExhausted
  | targetError
  | targetLost
  | targetReject
  deriving DecidableEq, Repr

/-- The result code of a CONTROL_DONE (section 10.2). -/
inductive ResultCode
  | ok
  | unknownOperation
  | notAdmin
  | noLease
  | leaseHeld
  | busy
  | draining
  | invalidPlane
  | badArgument
  | notHolding
  | notQuarantined
  deriving DecidableEq, Repr

/-- The name of a Plane Controller state, as records report it (11.1). -/
inductive PlanePhase
  | steady
  | editing
  | holding
  | draining
  deriving DecidableEq, Repr

/-- The state of a master port (R164). -/
inductive PortState
  | offline
  | active
  | quarantined
  deriving DecidableEq, Repr

/-- The state of a target port (R115). -/
inductive TargetState
  | absent
  | down
  | training
  | up
  deriving DecidableEq, Repr

/-- The role of a plane, as GET_WINDOW reports it (R18). -/
inductive Role
  | live
  | staged
  | old
  deriving DecidableEq, Repr

/-- The check of R20 that a PUT_WINDOW fails. -/
inductive PutReason
  | index
  | size
  | field
  | baseAlign
  | xlateAlign
  | targetAbsent
  deriving DecidableEq, Repr

/-- The mode of a switch (section 2.3). -/
inductive SwitchMode
  | immediate
  | quiesced
  deriving DecidableEq, Repr

/-- Why a target port left its state (R129). -/
inductive DownCause
  | linkLost
  | resetTarget
  deriving DecidableEq, Repr

/-- Why a held switch was given up (R46). -/
inductive AbandonReason
  | drainLimit
  | requesterLost
  deriving DecidableEq, Repr

/-! ## The Outstanding Request Table (chapter 4) -/

/-- The state of an ORT entry that is not FREE, with the times present in that state (section 4.1). -/
inductive OrtPhase
  | waiting (deadline : Nat)
  | issued (deadline : Nat)
  | backoff (deadline backoffEnd : Nat)
  | lapsed (lapseEnd : Nat)
  deriving DecidableEq, Repr

/-- The fields of an ORT entry that is not FREE (section 4.1), with the write data its blocks hold. -/
structure OrtUse where
  phase            : OrtPhase
  master           : Master
  tag              : Tag
  kind             : Kind
  cls              : OrderClass
  plane            : PlaneId
  window           : WindowIndex
  target           : Target
  address          : Address
  length           : Nat
  blocks           : Nat
  data             : List Byte
  retries          : Nat
  responseOwed     : Bool
  failureReporting : Bool
  deriving DecidableEq, Repr

/-- An ORT entry: its reuse count, kept always, and its other fields, absent when it is FREE (R73). -/
structure OrtEntry where
  reuse : BitVec 2
  use   : Option OrtUse
  deriving DecidableEq, Repr

/-! ## Settings (chapter 10) -/

/-- The limits of one master (R164): quota, weight, stall limit in ms. -/
structure Limits where
  quota  : Nat
  weight : Nat
  stall  : Nat
  deriving DecidableEq, Repr

/-! ## Result records (R47, 11.4) -/

/-- The result of GET_WINDOW (R18). -/
structure WindowReport where
  plane      : PlaneId
  role       : Role
  phase      : PlanePhase
  index      : WindowIndex
  generation : Generation
  entry      : Window
  deriving DecidableEq, Repr

/-- The outcome a PROBE reports (R22). -/
inductive ProbeOutcome
  | hit
  | noWindow
  | noAccess
  deriving DecidableEq, Repr

/-- The result of PROBE (R22); for NO_WINDOW the routing fields hold their zero values. -/
structure ProbeReport where
  outcome       : ProbeOutcome
  plane         : PlaneId
  generation    : Generation
  window        : WindowIndex
  target        : Target
  address       : Address
  cls           : OrderClass
  deadlineClass : DeadlineClass
  retryBudget   : Fin 16
  deriving DecidableEq, Repr

/-- The result of GET_PLANE_STATUS (R23, R182); the times left are in µs. -/
structure PlaneStatus where
  phase      : PlanePhase
  live       : PlaneId
  holder     : Option Master
  generation : Generation
  count0     : Nat
  count1     : Nat
  leaseLeft  : Nat
  drainLeft  : Nat
  deriving DecidableEq, Repr

/-- One item of the entry list of GET_MASTER_STATUS (R183): the entry, and the three times left, zero
where the field is absent. -/
structure EntryItem where
  index        : OrtIndex
  reuse        : BitVec 2
  entry        : OrtUse
  deadlineLeft : Nat
  backoffLeft  : Nat
  lapseLeft    : Nat
  deriving DecidableEq, Repr

/-- The result of GET_MASTER_STATUS (R183). -/
structure MasterStatus where
  master             : Master
  present            : Bool
  admin              : Bool
  state              : PortState
  limits             : Limits
  faults             : Nat
  held               : Nat
  dataPackets        : Nat
  dataOutstanding    : Nat
  dataOwed           : Nat
  controlPackets     : Nat
  controlOutstanding : Nat
  controlOwed        : Nat
  slotsInUse         : Nat
  noticesHeld        : Nat
  advertised         : Nat
  credits            : Nat
  fenceOccupied      : Bool
  fenceMembers       : Nat
  fenceFailures      : Nat
  postedFailures     : Nat
  items              : List EntryItem
  deriving DecidableEq, Repr

/-- The credit counts of one class at a target port (R115). -/
structure Credits where
  advertised : Nat
  held       : Nat
  inUse      : Nat
  deriving DecidableEq, Repr

/-- The result of GET_TARGET_STATUS (R184). -/
structure TargetStatus where
  port         : Target
  state        : TargetState
  posted       : Credits
  request      : Credits
  stale        : Nat
  creditFaults : Nat
  lanes        : Vector Nat 4
  issued       : Nat
  backoff      : Nat
  lapsed       : Nat
  deriving DecidableEq, Repr

/-- The result of GET_SETTINGS (R185). -/
structure SettingsReport where
  leasePeriod : Nat
  deadlines   : Vector Nat 4
  limits      : Vector Limits 4
  straps      : Straps
  deriving DecidableEq, Repr

/-- The result record of a CONTROL_DONE (R47, R181 to R191). -/
inductive ResultRecord
  /-- No field: the rules list none (log 8). -/
  | empty
  /-- UNKNOWN_OPERATION: the code received (R181). -/
  | unknownOperation (op : Byte)
  /-- BAD_ARGUMENT with reason FORM (R191). -/
  | form
  /-- BAD_ARGUMENT naming an argument by its place in the argument list, counted here from 0 (11.4). -/
  | argument (index : Nat)
  /-- BAD_ARGUMENT of PUT_WINDOW: the failing check and the index received (R20). -/
  | putCheck (reason : PutReason) (index : Byte)
  /-- NO_LEASE, BUSY, DRAINING, NOT_HOLDING, NOT_ADMIN of a plane operation (R47). -/
  | planeRefusal (phase : PlanePhase) (generation : Generation) (holder : Option Master)
  /-- LEASE_HELD: the holder and its lease time left in µs (R47). -/
  | leaseHeld (holder : Master) (timeLeft : Nat)
  | claimed (holder : Master) (periodMs : Nat) (generation : Generation) (live : PlaneId)
  | released (generation : Generation)
  | windowPut (plane : PlaneId) (generation : Generation)
  | reverted (generation : Generation)
  | switched (mode : SwitchMode) (phase : PlanePhase) (generation : Generation) (live : PlaneId)
      (settled : Bool) (drainLimit : Option Nat)
  | invalidPlane (i j : WindowIndex)
  | cancelled (generation : Generation) (periodMs : Nat)
  | window (r : WindowReport)
  | probed (r : ProbeReport)
  | planeStatus (r : PlaneStatus)
  | masterStatus (r : MasterStatus)
  | targetStatus (r : TargetStatus)
  | settings (r : SettingsReport)
  | periodSet (before now : Nat)
  | limitsSet (before now : Limits)
  | deadlinesSet (before now : Vector Nat 4)
  | quarantineCleared (m : Master)
  | targetReset (t : Target) (left : TargetState)
  deriving DecidableEq, Repr

/-! ## Responses, notices and the Response Unit (chapter 7) -/

/-- A response (section 7.2). -/
inductive Response
  | readDone (tag : Tag) (status : Status) (data : List Byte)
  | writeDone (tag : Tag) (status : Status)
  | writeAck (tag : Tag)
  | fenceDone (tag : Tag) (failures : Nat)
  | controlDone (tag : Tag) (op : Byte) (code : ResultCode) (record : ResultRecord)
  deriving DecidableEq, Repr

/-- A notice record (section 7.3). -/
inductive Notice
  | planeFlipped (generation : Generation) (live : PlaneId)
  | planeSettled (generation : Generation)
  | switchAbandoned (reason : AbandonReason) (generation : Generation)
  | leaseExpired (generation : Generation)
  | postedFail (tag : Tag) (target : Target) (address : Address) (length : Nat) (reason : Status)
  | masterQuarantined (m : Master)
  | targetDown (t : Target) (cause : DownCause) (left : TargetState)
  | targetUp (t : Target) (posted request : Nat)
  | overflow (lost : Nat)
  deriving DecidableEq, Repr

/-- The holder of a RESERVED completion slot (section 7.1). -/
inductive SlotHolder
  | head
  | ort (i : OrtIndex)
  | fence
  | control
  deriving DecidableEq, Repr

/-- A Response Unit: completion queue, notice queue, response credits, stall timer (R135, R139, R141,
R148). The stall timer holds its elapsed time in µs and the limit in ms read at its last setting to
zero; whether it runs follows from the rest of the state. -/
structure ResponseUnit where
  reserved     : List SlotHolder
  filled       : List Response
  notices      : List Notice
  advertised   : Nat
  credits      : Nat
  stallElapsed : Nat
  stallLimit   : Nat
  deriving DecidableEq, Repr

/-! ## Ingress Unit, Fence Tracker and master port (chapters 3, 8, 9) -/

/-- The phase of the head record (section 3.2). -/
inductive HeadPhase
  | unrouted
  | refused (status : Status)
  | routed (r : Routing) (kind : Kind)
  deriving DecidableEq, Repr

/-- An Ingress Unit: queues, head record and ingress credits (R49, R50, section 3.2). With an empty data
queue there is no head record, and the two head fields hold `unrouted` and `false`. -/
structure Ingress where
  dataQueue          : List DataPacket
  controlQueue       : List ControlPacket
  headPhase          : HeadPhase
  headSlot           : Bool
  dataOutstanding    : Nat
  dataOwed           : Nat
  controlOutstanding : Nat
  controlOwed        : Nat
  deriving DecidableEq, Repr

/-- A fence in the fence slot (R152). Its completion slot is the RESERVED slot held by `fence`. -/
structure Fence where
  members  : List OrtIndex
  failures : Nat
  tag      : Tag
  deriving DecidableEq, Repr

/-- A Fence Tracker (R152); `slot = none` is EMPTY. -/
structure FenceTracker where
  slot           : Option Fence
  postedFailures : Nat
  deriving DecidableEq, Repr

/-- A master port with the blocks that keep state for its master. -/
structure MasterPort where
  state   : PortState
  faults  : Nat
  ingress : Ingress
  resp    : ResponseUnit
  fence   : FenceTracker
  deriving DecidableEq, Repr

/-! ## Control Unit, Plane Controller, target ports -/

/-- The operation record of an EXECUTING Control Unit (R177). Its slot reservation is the RESERVED slot
held by `control` in the requester's completion queue. -/
structure Operation where
  requester : Master
  tag       : Tag
  code      : Byte
  args      : List Byte
  deriving DecidableEq, Repr

/-- The Control Unit (R177); `op = none` is IDLE. Periods are in ms, deadline values in µs. -/
structure ControlUnit where
  op          : Option Operation
  pointer     : Master
  leasePeriod : Nat
  deadlines   : Vector Nat 4
  limits      : Vector Limits 4
  deriving DecidableEq, Repr

/-- A running lease or drain limit timer: the time it started, in µs, and its length in ms. -/
structure Timer where
  started : Nat
  lengthMs : Nat
  deriving DecidableEq, Repr

/-- The Plane Controller's state with what is present in it: the holder in EDITING and HOLDING, the lease
timer in EDITING, the drain limit and its timer in HOLDING (R23, R24). -/
inductive PlaneState
  | steady
  | editing (holder : Master) (lease : Timer)
  | holding (holder : Master) (drain : Timer)
  | draining
  deriving DecidableEq, Repr

/-- A target port record (R115) with its Issue Arbiter (R105). The backoff timers are the backoff ends
of the ORT entries. -/
structure TargetPort where
  state        : TargetState
  posted       : Credits
  request      : Credits
  stale        : Nat
  creditFaults : Nat
  pointer      : Master
  run          : Nat
  deriving DecidableEq, Repr

/-- What the part puts on a link: a frame, the link reset signalled to a target (R130), or the forced
drop of a master link (R174). -/
inductive LinkOutput
  | frame (bytes : List Byte)
  | linkReset
  | linkDown
  deriving DecidableEq, Repr

end Sys2Proof.Machine
end

