-- ==== Sys2Proof/Machine/Boot.lean ====
section
/-! DEFINITION. The power-on value of each piece of state (R11, R23, R70, R93, R111, R115, R151, R152,
R164, R177). -/

namespace Sys2Proof.Machine

/-- The zero value of a window entry (section 1.2). -/
def Window.zero : Window :=
  { enabled := false, base := 0, sizeExp := 0, target := 0, translation := none, cls := .strict,
    access := Vector.replicate 4 .none, deadlineClass := 0, retryBudget := 0 }

/-- The size exponent of the boot window: 16 MiB, 256 MiB, 4 GiB, 64 GiB (section 1.3). -/
def bootSizeExp (bootsz : BitVec 2) : Nat := 24 + 4 * bootsz.toNat

/-- Entry 0 of the boot map (R11). -/
def bootWindow (straps : Straps) : Window :=
  { enabled := straps.tpresent[0], base := 0, sizeExp := bootSizeExp straps.bootsz, target := 0,
    translation := none, cls := .strict,
    access := Vector.ofFn fun m : Fin 4 => if straps.mpresent[m] then .readWrite else .none,
    deadlineClass := 2, retryBudget := 4 }

/-- The boot map of one plane (R11). -/
def bootPlane (straps : Straps) : Plane := (Vector.replicate 32 Window.zero).set 0 (bootWindow straps)

/-- The default deadline class values, in µs (R177). -/
def defaultDeadlines : Vector Nat 4 := #v[20, 500, 10000, 200000]

/-- The default limits of a master (R164). -/
def defaultLimits : Limits := { quota := 16, weight := 1, stall := 20 }

/-- The Ingress Unit at power-on (R70). -/
def Ingress.powerOn : Ingress :=
  { dataQueue := [], controlQueue := [], headPhase := .unrouted, headSlot := false,
    dataOutstanding := 0, dataOwed := 0, controlOutstanding := 0, controlOwed := 0 }

/-- The Response Unit at power-on (R151), its stall limit read from the default limits (R148). -/
def ResponseUnit.powerOn : ResponseUnit :=
  { reserved := [], filled := [], notices := [], advertised := 0, credits := 0, stallElapsed := 0,
    stallLimit := defaultLimits.stall }

/-- The Fence Tracker at power-on (R152). -/
def FenceTracker.powerOn : FenceTracker := { slot := none, postedFailures := 0 }

/-- A master port at power-on (R164). -/
def MasterPort.powerOn : MasterPort :=
  { state := .offline, faults := 0, ingress := .powerOn, resp := .powerOn, fence := .powerOn }

/-- The Control Unit at power-on (R177). -/
def ControlUnit.powerOn : ControlUnit :=
  { op := none, pointer := 0, leasePeriod := 50, deadlines := defaultDeadlines,
    limits := Vector.replicate 4 defaultLimits }

/-- No credits of a class (R115). -/
def Credits.zero : Credits := { advertised := 0, held := 0, inUse := 0 }

/-- A target port at power-on, by its TPRESENT strap (R115, R105). -/
def TargetPort.powerOn (present : Bool) : TargetPort :=
  { state := if present then .down else .absent, posted := .zero, request := .zero, stale := 0,
    creditFaults := 0, pointer := 0, run := 0 }

/-- An ORT entry at power-on (R93). -/
def OrtEntry.powerOn : OrtEntry := { reuse := 0, use := none }

/-- The number of Data Pool blocks (R92). -/
def poolBlocks : Nat := 256

end Sys2Proof.Machine
end

