-- ==== Sys2Proof/Machine/State.lean ====
section
/-! DEFINITION. The state of the NJ-4260, its reset value, and the reasons a step can stop. -/

namespace Sys2Proof.Machine

/-- Everything the spec gives the part, as plain data, with the queue of waiting commands. -/
structure State where
  /-- The level of PWRON_N: high while the part runs (R193). -/
  pwronN        : Bool
  /-- The straps as sampled at power-on (R193). -/
  straps        : Straps
  /-- The timebase in µs (R193). -/
  now           : Nat
  /-- Planes P0 and P1 (R1). -/
  planes        : Vector Plane 2
  /-- The count of flips (R2). -/
  generation    : Generation
  /-- The Plane Controller's state, holder and timers (R23). -/
  planeState    : PlaneState
  /-- The reference counts of P0 and P1 (R39). -/
  refCounts     : Vector Nat 2
  /-- Decrements sent by the ORT and not yet taken, for each plane (R39). -/
  decrements    : Vector Nat 2
  /-- Flush reports sent and not yet taken, for each master (R168). -/
  flushReports  : Vector Nat 4
  /-- Announcements of a port leaving UP not yet taken, for each Ingress Unit and target (R128). -/
  announcements : Vector (Vector Nat 6) 4
  /-- The master ports (R164). -/
  masters       : Vector MasterPort 4
  /-- The Control Unit (R177). -/
  control       : ControlUnit
  /-- The Outstanding Request Table (R73). -/
  ort           : Vector OrtEntry 64
  /-- The held count of each master (R91). -/
  held          : Vector Nat 4
  /-- The free blocks of the Data Pool (R92). -/
  freeBlocks    : Nat
  /-- Lane (t, m) is lanes[t][m], head first (R96). -/
  lanes         : Vector (Vector (List OrtIndex) 4) 6
  /-- The target ports (R115). -/
  targets       : Vector TargetPort 6
  /-- MODEL: what each master link has carried from the part, oldest first (log 13). -/
  masterOut     : Vector (List LinkOutput) 4
  /-- MODEL: what each target link has carried from the part, oldest first (log 13). -/
  targetOut     : Vector (List LinkOutput) 6
  /-- MODEL: counts the free choices of steps on an empty queue (log 3). -/
  choices       : Nat
  /-- The commands that wait, first in, first out. -/
  pending       : List Instr
  deriving DecidableEq, Repr

/-- Why a step stops: never. The spec gives every command an effect, a count or a discard in every state,
so there is no fault to raise. -/
inductive Fault
  deriving DecidableEq, Repr

/-- Why a command has no meaning. -/
inductive Refusal
  /-- Raised by exec for a row that has no meaning yet; safe. No arm raises it. -/
  | notModelled (mnemonic : String)
  deriving DecidableEq, Repr

/-- The state after the rising edge of PWRON_N with the given straps sampled (R193). -/
def State.powerOn (straps : Straps) : State :=
  { pwronN := true, straps := straps, now := 0,
    planes := Vector.replicate 2 (bootPlane straps), generation := 0, planeState := .steady,
    refCounts := Vector.replicate 2 0, decrements := Vector.replicate 2 0,
    flushReports := Vector.replicate 4 0,
    announcements := Vector.replicate 4 (Vector.replicate 6 0),
    masters := Vector.replicate 4 .powerOn, control := .powerOn,
    ort := Vector.replicate 64 .powerOn, held := Vector.replicate 4 0, freeBlocks := poolBlocks,
    lanes := Vector.replicate 6 (Vector.replicate 4 []),
    targets := Vector.ofFn fun t : Fin 6 => .powerOn straps.tpresent[t],
    masterOut := Vector.replicate 4 [], targetOut := Vector.replicate 6 [],
    choices := 0, pending := [] }

/-- The machine right after reset, with the straps of log 4. -/
def State.reset : State := State.powerOn Config.resetStraps

end Sys2Proof.Machine
end

