-- ==== Sys2Proof/Machine/Flags.lean ====
section
/-! DEFINITION. Counts and conditions: saturating counts, Data Pool blocks, backoff times, the live plane,
slots and notices of a Response Unit, the stall timer, target credits. -/

namespace Sys2Proof.Machine

/-- A count that rises by one and saturates at 65,535 (R51, R78, R139, R154). -/
def satInc (n : Nat) : Nat := min (n + 1) 65535

/-- The Data Pool blocks of a write of length `len` (00 Conventions, R92). -/
def blocksFor (len : Nat) : Nat := (len + 63) / 64

/-- The backoff, in µs, of an entry that enters BACKOFF with `n` retries used (R82). -/
def backoffTime (n : Nat) : Nat := min (4 * 2 ^ (n - 1)) 512

/-- The plane that is live under a generation: P0 when it is even, P1 when it is odd (R2). -/
def livePlane (g : Generation) : PlaneId := if g.toNat % 2 = 0 then 0 else 1

/-- The other plane. -/
def otherPlane (p : PlaneId) : PlaneId := if p = 0 then 1 else 0

/-- The name of the Plane Controller's state. -/
def PlaneState.phase : PlaneState → PlanePhase
  | .steady => .steady
  | .editing _ _ => .editing
  | .holding _ _ => .holding
  | .draining => .draining

/-- The holder of the edit lease (R24). -/
def PlaneState.holder : PlaneState → Option Master
  | .steady => none
  | .editing h _ => some h
  | .holding h _ => some h
  | .draining => none

/-- Whether the Plane Controller is HOLDING. -/
def PlaneState.isHolding (p : PlaneState) : Bool := p.phase == .holding

/-- The time at which a timer expires, in µs. -/
def Timer.expiry (t : Timer) : Nat := t.started + 1000 * t.lengthMs

/-- Whether a timer has reached its length. -/
def Timer.due (t : Timer) (now : Nat) : Bool := decide (t.expiry ≤ now)

/-- The time left of a timer, in µs (R182). Of a timer whose period has passed and whose expiry is not yet
taken the spec gives no time left, and the model reports 0 (DESIGN CHOICE, log 28). -/
def Timer.left (t : Timer) (now : Nat) : Nat := 1000 * t.lengthMs - (now - t.started)

/-- Whether an ORT entry counts toward its plane: WAITING, ISSUED or BACKOFF (R39). -/
def OrtPhase.counted : OrtPhase → Bool
  | .waiting _ => true
  | .issued _ => true
  | .backoff _ _ => true
  | .lapsed _ => false

/-- Whether an ORT entry stands in a lane: WAITING or BACKOFF (R100). -/
def OrtPhase.inLane : OrtPhase → Bool
  | .waiting _ => true
  | .issued _ => false
  | .backoff _ _ => true
  | .lapsed _ => false

/-- Whether an ORT entry is LAPSED. -/
def OrtPhase.isLapsed : OrtPhase → Bool
  | .lapsed _ => true
  | _ => false

/-- Whether an ORT entry is ISSUED. -/
def OrtPhase.isIssued : OrtPhase → Bool
  | .issued _ => true
  | _ => false

/-- Whether an ORT entry is in BACKOFF. -/
def OrtPhase.isBackoff : OrtPhase → Bool
  | .backoff _ _ => true
  | _ => false

/-- The deadline of an entry, absent when it is LAPSED (section 4.1). -/
def OrtPhase.deadline? : OrtPhase → Option Nat
  | .waiting d => some d
  | .issued d => some d
  | .backoff d _ => some d
  | .lapsed _ => none

/-- The backoff end of an entry, present in BACKOFF (section 4.1). -/
def OrtPhase.backoffEnd? : OrtPhase → Option Nat
  | .backoff _ b => some b
  | _ => none

/-- The lapse end of an entry, present in LAPSED (section 4.1). -/
def OrtPhase.lapseEnd? : OrtPhase → Option Nat
  | .lapsed l => some l
  | _ => none

/-- The completion slots in use, RESERVED plus FILLED (R135). -/
def ResponseUnit.slotsInUse (r : ResponseUnit) : Nat := r.reserved.length + r.filled.length

/-- Whether a slot of the completion queue is FREE (R135). -/
def ResponseUnit.hasFree (r : ResponseUnit) : Bool := decide (r.slotsInUse < 16)

/-- Reserves a FREE slot for a holder (R136). -/
def ResponseUnit.reserve (r : ResponseUnit) (h : SlotHolder) : ResponseUnit :=
  { r with reserved := h :: r.reserved }

/-- Passes a RESERVED slot from one holder to another (R136). -/
def ResponseUnit.pass (r : ResponseUnit) (a b : SlotHolder) : ResponseUnit :=
  if a ∈ r.reserved then { r with reserved := b :: r.reserved.erase a } else r

/-- Fills the RESERVED slot of a holder; a fill whose reservation was removed is dropped (R137). -/
def ResponseUnit.fill (r : ResponseUnit) (h : SlotHolder) (x : Response) : ResponseUnit :=
  if h ∈ r.reserved then { r with reserved := r.reserved.erase h, filled := r.filled ++ [x] } else r

/-- A refused head's claim and fill made together: a FREE slot becomes FILLED (R57, R137). -/
def ResponseUnit.fillFree (r : ResponseUnit) (x : Response) : ResponseUnit :=
  { r with filled := r.filled ++ [x] }

/-- Hands a notice to a notice queue: stored, or counted in an OVERFLOW record (R139). -/
def pushNotice (q : List Notice) (n : Notice) : List Notice :=
  match q.getLast? with
  | some (.overflow lost) => q.dropLast ++ [.overflow (satInc lost)]
  | _ => if q.length < 7 then q ++ [n] else q ++ [.overflow 1]

/-- Whether a record or a response waits to be sent (R148). -/
def ResponseUnit.hasWaiting (r : ResponseUnit) : Bool := !r.notices.isEmpty || !r.filled.isEmpty

/-- Whether the stall timer runs: port ACTIVE, something waits, no response credit held (R148). -/
def MasterPort.stallRuns (p : MasterPort) : Bool :=
  p.state == .active && p.resp.hasWaiting && p.resp.credits == 0

/-- Whether the stall timer has expired (R149). -/
def MasterPort.stallDue (p : MasterPort) : Bool :=
  p.stallRuns && decide (1000 * p.resp.stallLimit ≤ p.resp.stallElapsed)

/-- One credit of a class is spent (R120). -/
def Credits.spend (c : Credits) : Credits := { c with held := c.held - 1, inUse := c.inUse + 1 }

/-- Returned credits are accepted up to the number in use (R121). -/
def Credits.restore (c : Credits) (n : Nat) : Credits :=
  { c with held := c.held + min n c.inUse, inUse := c.inUse - min n c.inUse }

/-- The credits a T_READY grants (R117). -/
def Credits.grant (n : Nat) : Credits := { advertised := n, held := n, inUse := 0 }

end Sys2Proof.Machine
end

