-- ==== Sys2Proof/Machine/Ops.lean ====
section
/-! DEFINITION. The shared operations over State: reading and updating its parts, counting faults,
handing out notices, filling slots, the settings' readers, the queues' heads. -/

namespace Sys2Proof.Machine

/-! ## Parts of the state -/

/-- The four masters, in index order. -/
def allMasters : List Master := [0, 1, 2, 3]

/-- The six targets, in index order. -/
def allTargets : List Target := [0, 1, 2, 3, 4, 5]

/-- The 64 ORT indices, in index order. -/
def ortIndices : List OrtIndex := List.finRange 64

/-- The port of master `m`. -/
def State.port (s : State) (m : Master) : MasterPort := s.masters[m]

/-- Replaces the port of master `m`. -/
def State.setPort (s : State) (m : Master) (p : MasterPort) : State :=
  { s with masters := s.masters.set m p }

/-- Updates the port of master `m`. -/
def State.modPort (s : State) (m : Master) (f : MasterPort → MasterPort) : State :=
  s.setPort m (f (s.port m))

/-- Updates every master port. -/
def State.mapPorts (s : State) (f : Master → MasterPort → MasterPort) : State :=
  { s with masters := Vector.ofFn fun m => f m (s.port m) }

/-- Updates the Ingress Unit of master `m`. -/
def State.modIngress (s : State) (m : Master) (f : Ingress → Ingress) : State :=
  s.modPort m fun p => { p with ingress := f p.ingress }

/-- Updates the Response Unit of master `m`. -/
def State.modResp (s : State) (m : Master) (f : ResponseUnit → ResponseUnit) : State :=
  s.modPort m fun p => { p with resp := f p.resp }

/-- Replaces the Fence Tracker of master `m`. -/
def State.setFence (s : State) (m : Master) (f : FenceTracker) : State :=
  s.modPort m fun p => { p with fence := f }

/-- The target port `t`. -/
def State.target (s : State) (t : Target) : TargetPort := s.targets[t]

/-- Replaces the target port `t`. -/
def State.setTarget (s : State) (t : Target) (p : TargetPort) : State :=
  { s with targets := s.targets.set t p }

/-- Updates the target port `t`. -/
def State.modTarget (s : State) (t : Target) (f : TargetPort → TargetPort) : State :=
  s.setTarget t (f (s.target t))

/-- The ORT entry at index `i`. -/
def State.entry (s : State) (i : OrtIndex) : OrtEntry := s.ort[i]

/-- Replaces the fields of the ORT entry at index `i`, keeping its reuse count. -/
def State.setUse (s : State) (i : OrtIndex) (u : Option OrtUse) : State :=
  { s with ort := s.ort.set i { s.entry i with use := u } }

/-- Lane (t, m), head first. -/
def State.lane (s : State) (t : Target) (m : Master) : List OrtIndex := s.lanes[t][m]

/-- Replaces lane (t, m). -/
def State.setLane (s : State) (t : Target) (m : Master) (l : List OrtIndex) : State :=
  { s with lanes := s.lanes.set t (s.lanes[t].set m l) }

/-- The window entry at (plane, index), read at any time (R17). -/
def State.window (s : State) (p : PlaneId) (i : WindowIndex) : Window := s.planes[p][i]

/-- The live plane (R2). -/
def State.live (s : State) : PlaneId := livePlane s.generation

/-- The plane that is not live: staged, or old while DRAINING (R1). -/
def State.other (s : State) : PlaneId := otherPlane s.live

/-- Whether master `m` is an admin master, by its sampled strap (R181). -/
def State.isAdmin (s : State) (m : Master) : Bool := s.straps.admin[m]

/-- Whether master port `m` is strapped present (R164). -/
def State.masterPresent (s : State) (m : Master) : Bool := s.straps.mpresent[m]

/-- Whether target port `t` is strapped present (R115). -/
def State.targetPresent (s : State) (t : Target) : Bool := s.straps.tpresent[t]

/-- Whether master port `m` is ACTIVE. -/
def State.isActive (s : State) (m : Master) : Bool := (s.port m).state == .active

/-- The limits of master `m` (R164). -/
def State.limits (s : State) (m : Master) : Limits := s.control.limits[m]

/-- The value of a deadline class, in µs (R9). -/
def State.classValue (s : State) (d : DeadlineClass) : Nat := s.control.deadlines[d]

/-- A timer started now with a length in ms. -/
def State.startTimer (s : State) (ms : Nat) : Timer := { started := s.now, lengthMs := ms }

/-- The lease timer started now with the lease period the Control Unit holds (R24). -/
def State.leaseTimer (s : State) : Timer := s.startTimer s.control.leasePeriod

/-! ## Taking an event -/

/-- The event of a powered part: while PWRON_N is low the part takes no event (R193). -/
def takeEvent (s : State) (f : State → State) : Host.Outcome State Fault Refusal :=
  .next (if s.pwronN then f s else s)

/-! ## Time -/

/-- `d` microseconds pass: the timebase advances, and so does every stall timer that runs (R148, R193). -/
def State.passTime (s : State) (d : Nat) : State :=
  ({ s with now := s.now + d }).mapPorts fun _ p =>
    if p.stallRuns then { p with resp := { p.resp with stallElapsed := p.resp.stallElapsed + d } } else p

/-- The timebase has reached `t`: the time still missing passes (log 3). -/
def State.advanceTo (s : State) (t : Nat) : State := s.passTime (t - s.now)

/-! ## Counts, notices, slots, outputs -/

/-- A protocol fault of master port `m` (R51). -/
def State.fault (s : State) (m : Master) : State :=
  s.modPort m fun p => { p with faults := satInc p.faults }

/-- One more stale answer or frame at port `t` (R125). -/
def State.countStale (s : State) (t : Target) : State :=
  s.modTarget t fun p => { p with stale := satInc p.stale }

/-- One more credit fault at port `t` (R115). -/
def State.countCreditFault (s : State) (t : Target) : State :=
  s.modTarget t fun p => { p with creditFaults := satInc p.creditFaults }

/-- A port takes a notice if it is ACTIVE (R140). -/
def MasterPort.notify (p : MasterPort) (n : Notice) : MasterPort :=
  if p.state == .active then { p with resp := { p.resp with notices := pushNotice p.resp.notices n } }
  else p

/-- Hands a notice to master `m`, if its port is ACTIVE. -/
def State.notify (s : State) (m : Master) (n : Notice) : State := s.modPort m fun p => p.notify n

/-- Hands a notice to every ACTIVE master that `who` selects (R46, R129, R171). -/
def State.notifyAll (s : State) (who : Master → Bool) (n : Notice) : State :=
  s.mapPorts fun m p => if who m then p.notify n else p

/-- Fills the slot a holder of master `m` has RESERVED (R137). -/
def State.fill (s : State) (m : Master) (h : SlotHolder) (x : Response) : State :=
  s.modResp m fun r => r.fill h x

/-- Sets the stall timer of a Response Unit to zero, with the master's stall limit (R148). -/
def State.zeroStall (s : State) (m : Master) (r : ResponseUnit) : ResponseUnit :=
  { r with stallElapsed := 0, stallLimit := (s.limits m).stall }

/-- The part puts something on master link `m`. -/
def State.putMaster (s : State) (m : Master) (o : LinkOutput) : State :=
  { s with masterOut := s.masterOut.set m (s.masterOut[m] ++ [o]) }

/-- The part puts something on target link `t`. -/
def State.putTarget (s : State) (t : Target) (o : LinkOutput) : State :=
  { s with targetOut := s.targetOut.set t (s.targetOut[t] ++ [o]) }

/-- The ORT sends the Plane Controller a decrement for plane `p` (R75). -/
def State.sendDecrement (s : State) (p : PlaneId) : State :=
  { s with decrements := s.decrements.set p (s.decrements[p] + 1) }

/-- Reference count of plane `p` set to `n`. -/
def State.setCount (s : State) (p : PlaneId) (n : Nat) : State :=
  { s with refCounts := s.refCounts.set p n }

/-- Held count of master `m` set to `n` (R91). -/
def State.setHeld (s : State) (m : Master) (n : Nat) : State :=
  { s with held := s.held.set m n }

/-- Announcements of port `t` waiting at the Ingress Unit of master `m` set to `n` (R128). -/
def State.setAnnouncement (s : State) (m : Master) (t : Target) (n : Nat) : State :=
  { s with announcements := s.announcements.set m (s.announcements[m].set t n) }

/-! ## Heads -/

/-- The data head of master `m`: the oldest packet of its data ingress queue, while its port is ACTIVE
(R53, R169). -/
def State.dataHead (s : State) (m : Master) : Option DataPacket :=
  if s.isActive m then (s.port m).ingress.dataQueue.head? else none

/-- The control head of master `m` (R69). -/
def State.controlHead (s : State) (m : Master) : Option ControlPacket :=
  if s.isActive m then (s.port m).ingress.controlQueue.head? else none

/-- The control head leaves, and one control credit becomes owed (R69). -/
def Ingress.controlLeaves (g : Ingress) : Ingress :=
  { g with controlQueue := g.controlQueue.tail, controlOwed := g.controlOwed + 1 }

/-- Sets the phase of the head record of master `m`. -/
def State.setHeadPhase (s : State) (m : Master) (ph : HeadPhase) : State :=
  s.modIngress m fun g => { g with headPhase := ph }

end Sys2Proof.Machine
end

