-- ==== Sys2Proof/Machine/Lookup.lean ====
section
/-! DEFINITION. Lookup and translation in the live plane (R3 to R8, R14 to R16), and the overlap of window
entries (R13, R30). -/

namespace Sys2Proof.Machine

/-- Whether an entry is enabled and its range, base to base + size - 1, holds a byte (R3, R4). -/
def Window.holds (w : Window) (a : Nat) : Bool :=
  w.enabled && decide (w.base.toNat ≤ a) && decide (a < w.base.toNat + 2 ^ w.sizeExp)

/-- The address sent to the target (R6). -/
def Window.translate (w : Window) (a : Address) : Address :=
  match w.translation with
  | none => a
  | some x => x + (a - w.base)

/-- Whether an access value admits a READ or a WRITE (R8). -/
def Access.admits : Access → Bool → Bool
  | .none, _ => false
  | .read, isWrite => !isWrite
  | .readWrite, _ => true

/-- The routing a window gives an address under the live plane (R16). -/
def State.routingOf (s : State) (i : WindowIndex) (a : Address) : Routing :=
  let w := s.window s.live i
  { plane := s.live, generation := s.generation, window := i, target := w.target,
    address := w.translate a, cls := w.cls, deadlineClass := w.deadlineClass,
    retryBudget := w.retryBudget }

/-- The enabled entry of the live plane that holds a byte; by the overlap law there is at most one
(R13, R14). -/
def State.findWindow (s : State) (a : Address) : Option WindowIndex :=
  (List.finRange 32).find? fun i => (s.window s.live i).holds a.toNat

/-- A lookup for master `m`: the window of the first byte, then the last byte, computed without wrapping,
then the access (R14, R15). -/
def State.lookup (s : State) (m : Master) (isWrite : Bool) (a : Address) (len : Nat) : Lookup :=
  match s.findWindow a with
  | none => .noWindow
  | some i =>
    let w := s.window s.live i
    if w.holds (a.toNat + len - 1) then
      if w.access[m].admits isWrite then .hit (s.routingOf i a) else .noAccess (s.routingOf i a)
    else .span (s.routingOf i a)

/-- The ORT kind of a READ or WRITE routed through a window class (R7). -/
def kindOf (isWrite : Bool) (c : OrderClass) : Kind :=
  if isWrite then (if c = .posted then .writeP else .writeNp) else .read

/-- The ordering class in the lane (R101). -/
def laneClass (isWrite : Bool) (c : OrderClass) : OrderClass :=
  if isWrite then c else (if c = .relaxed then .relaxed else .strict)

/-- Two enabled entries overlap when some byte lies in both ranges (section 1.4). -/
def Window.overlaps (w v : Window) : Bool :=
  w.enabled && v.enabled && decide (w.base.toNat < v.base.toNat + 2 ^ v.sizeExp)
    && decide (v.base.toNat < w.base.toNat + 2 ^ w.sizeExp)

/-- The first pair (i, j), i lower than j, of overlapping enabled entries: the lowest such i, and for it
the lowest j (R30). -/
def firstOverlap (p : Plane) : Option (WindowIndex × WindowIndex) :=
  (List.finRange 32).findSome? fun i =>
    ((List.finRange 32).find? fun j => decide (i < j) && p[i].overlaps p[j]).map fun j => (i, j)

end Sys2Proof.Machine
end

