-- ==== Sys2Proof/Machine/Routing.lean ====
section
/-! DEFINITION. The data head: the request it holds, its routing (R54 to R56), and how a packet becomes head
and leaves (R53). -/

namespace Sys2Proof.Machine

/-- A READ or WRITE request of a data head. -/
structure Request where
  isWrite : Bool
  tag     : Tag
  length  : Nat
  addr    : Address
  data    : List Byte
  deriving DecidableEq, Repr

/-- The READ or WRITE request of a packet; a FENCE is none (R68). -/
def DataPacket.request? : DataPacket → Option Request
  | .read tag len addr => some ⟨false, tag, len.toNat, addr, []⟩
  | .write tag len addr data => some ⟨true, tag, len.toNat, addr, data⟩
  | .fence _ => none

/-- The READ or WRITE request at the data head of master `m`. -/
def State.headRequest (s : State) (m : Master) : Option Request :=
  (s.dataHead m).bind DataPacket.request?

/-- Whether an ORT entry of master `m` has a response owed and carries a tag (R56). -/
def OrtEntry.owes (e : OrtEntry) (m : Master) (tag : Tag) : Bool :=
  match e.use with
  | none => false
  | some u => u.master == m && u.phase.counted && u.responseOwed && u.tag == tag

/-- The master tag passes check 5 of R55: no entry of the same master with a response owed carries it
(R56). -/
def State.tagFree (s : State) (m : Master) (tag : Tag) : Bool :=
  ortIndices.all fun i => !(s.entry i).owes m tag

/-- The phase that routing gives an UNROUTED head: the checks of R55 in order. In HOLDING a head whose
length is in range stays UNROUTED (R54). -/
def State.routePhase (s : State) (m : Master) (q : Request) : HeadPhase :=
  if ¬(1 ≤ q.length ∧ q.length ≤ 256) then .refused .badLength
  else if s.planeState.isHolding then .unrouted
  else
    match s.lookup m q.isWrite q.addr q.length with
    | .noWindow => .refused .noWindow
    | .span _ => .refused .span
    | .noAccess _ => .refused .noAccess
    | .hit r =>
      if (s.target r.target).state ≠ .up then .refused .targetDown
      else
        let k := kindOf q.isWrite r.cls
        if k ≠ .writeP ∧ !s.tagFree m q.tag then .refused .tagInUse else .routed r k

/-- A packet has become the data head of master `m`, UNROUTED with no slot: a READ or WRITE is routed in the
same event (R53, R54); a FENCE is not routed (R68). -/
def State.routeNewHead (s : State) (m : Master) : State :=
  match s.headRequest m with
  | some q => s.setHeadPhase m (s.routePhase m q)
  | none => s

/-- A packet joins the data ingress queue against an outstanding credit (R49, R50); at an empty queue it
becomes head, UNROUTED with no slot (R53). -/
def Ingress.takeData (g : Ingress) (pkt : DataPacket) : Ingress :=
  let t := { g with dataQueue := g.dataQueue ++ [pkt], dataOutstanding := g.dataOutstanding - 1 }
  if g.dataQueue.isEmpty then { t with headPhase := .unrouted, headSlot := false } else t

/-- Master `m`'s Ingress Unit takes a data packet; one that becomes head is routed in the event (R49, R53,
R54). -/
def State.takeData (s : State) (m : Master) (pkt : DataPacket) : State :=
  let t := s.modIngress m fun g => g.takeData pkt
  if (s.port m).ingress.dataQueue.isEmpty then t.routeNewHead m else t

/-- The data head leaves: the next packet becomes head, UNROUTED with no slot, and one data credit
becomes owed (R50, R53). -/
def Ingress.dataLeaves (g : Ingress) : Ingress :=
  { g with dataQueue := g.dataQueue.tail, headPhase := .unrouted, headSlot := false,
           dataOwed := g.dataOwed + 1 }

/-- The data head of master `m` leaves its queue, and the packet that becomes head is routed in the event
(R53, R54). -/
def State.dataLeaves (s : State) (m : Master) : State :=
  (s.modIngress m Ingress.dataLeaves).routeNewHead m

end Sys2Proof.Machine
end

