-- ==== Sys2Proof/Machine/Ort.lean ====
section
/-! DEFINITION. The ORT's shared operations: fence reports (R154 to R156), retirement and failure (R75,
R89, R90), lapse (R84, R85), the port flush (R94) and the loss of a target (R95). -/

namespace Sys2Proof.Machine

/-! ## Fence Tracker -/

/-- The posted writes a fence of master `m` covers: its WRITE_P entries in WAITING, ISSUED or BACKOFF with
failure reporting yes (R153). -/
def State.fenceSet (s : State) (m : Master) : List OrtIndex :=
  ortIndices.filter fun i =>
    match (s.entry i).use with
    | none => false
    | some u => u.master == m && u.kind == .writeP && u.phase.counted && u.failureReporting

/-- The fence of master `m` completes: FENCE_DONE fills its slot and the fence slot becomes EMPTY (R156). -/
def State.finishFence (s : State) (m : Master) (f : Fence) : State :=
  (s.fill m .fence (.fenceDone f.tag f.failures)).setFence m
    { slot := none, postedFailures := (s.port m).fence.postedFailures }

/-- A FENCE head of master `m` is taken into the fence slot: its set, its failure count and its slot; it
completes in the same event if the set is empty (R153), and the packet behind it becomes head (R53). -/
def State.takeFence (s : State) (m : Master) (tag : Tag) : State :=
  let f : Fence := { members := s.fenceSet m, failures := (s.port m).fence.postedFailures, tag := tag }
  let s := (s.modResp m fun r => r.pass .head .fence).setFence m { slot := some f, postedFailures := 0 }
  (if f.members.isEmpty then s.finishFence m f else s).dataLeaves m

/-- The tag of a FENCE waiting at the data head of master `m` with a completion slot (R68). -/
def State.fenceHeadReady (s : State) (m : Master) : Option Tag :=
  match s.dataHead m with
  | some (.fence tag) => if (s.port m).ingress.headSlot then some tag else none
  | _ => none

/-- A FENCE head that holds a slot is taken if the fence slot is EMPTY (R68, R153). -/
def State.takeReadyFence (s : State) (m : Master) : State :=
  match s.fenceHeadReady m, (s.port m).fence.slot with
  | some tag, none => s.takeFence m tag
  | _, _ => s

/-- A fence completes at a report; a FENCE waiting at the head with a slot is taken in the same event
(R156). -/
def State.completeFence (s : State) (m : Master) (f : Fence) : State :=
  (s.finishFence m f).takeReadyFence m

/-- A report of the retirement of a WRITE_P entry with failure reporting yes: a member leaves the fence
set, a failure is counted for the fence or as a posted failure (R154, R155). -/
def State.fenceReport (s : State) (m : Master) (i : OrtIndex) (failed : Bool) : State :=
  let ft := (s.port m).fence
  let outside : State :=
    s.setFence m { ft with postedFailures :=
      if failed then satInc ft.postedFailures else ft.postedFailures }
  match ft.slot with
  | none => outside
  | some f =>
    if i ∈ f.members then
      let f : Fence := { f with members := f.members.erase i,
                                failures := if failed then satInc f.failures else f.failures }
      let s := s.setFence m { ft with slot := some f }
      if f.members.isEmpty then s.completeFence m f else s
    else outside

/-! ## Retirement -/

/-- An entry `u` at `i` that was WAITING, ISSUED or BACKOFF gives back its lane place, its blocks and its
plane reference (R75 steps 1 to 4). -/
def State.release (s : State) (i : OrtIndex) (u : OrtUse) : State :=
  let s := if u.phase.inLane then s.setLane u.target u.master ((s.lane u.target u.master).erase i) else s
  ({ s with freeBlocks := s.freeBlocks + u.blocks }).sendDecrement u.plane

/-- The entry at `i` loses its fields, and its master's held count falls (R73, R91). -/
def State.clearEntry (s : State) (i : OrtIndex) (u : OrtUse) : State :=
  (s.setUse i none).setHeld u.master (s.held[u.master] - 1)

/-- An entry retires to FREE (R75). -/
def State.retire (s : State) (i : OrtIndex) (u : OrtUse) : State := (s.release i u).clearEntry i u

/-- The response of an owed entry fills its slot (R79, R89). -/
def State.respond (s : State) (i : OrtIndex) (u : OrtUse) (st : Status) (data : List Byte) : State :=
  match u.kind with
  | .read => s.fill u.master (.ort i) (.readDone u.tag st data)
  | _ => s.fill u.master (.ort i) (.writeDone u.tag st)

/-- What a failure of entry `u` at `i` produces: the response of an owed entry (R89), or, for a posted
write with failure reporting yes, POSTED_FAIL and then the report (R90). -/
def State.reportFailure (s : State) (i : OrtIndex) (u : OrtUse) (st : Status) : State :=
  if u.kind = .writeP then
    if u.failureReporting then
      (s.notify u.master (.postedFail u.tag u.target u.address u.length st)).fenceReport u.master i true
    else s
  else if u.responseOwed then s.respond i u st [] else s

/-- An entry in WAITING, ISSUED or BACKOFF retires to FREE and fails (R75, R88). -/
def State.failEntry (s : State) (i : OrtIndex) (u : OrtUse) (st : Status) : State :=
  (s.retire i u).reportFailure i u st

/-- An ISSUED entry goes to LAPSED: its lapse end is set from the class value held now, its blocks and its
plane reference are given back, and it owes no response (R84 steps 1 to 4). -/
def State.lapse (s : State) (i : OrtIndex) (u : OrtUse) : State :=
  let lapseEnd := s.now + s.classValue (s.window u.plane u.window).deadlineClass
  (s.release i u).setUse i
    (some { u with phase := .lapsed lapseEnd, blocks := 0, data := [], responseOwed := false })

/-! ## Port flush and loss of a target -/

/-- The port flush of master `m` at one entry (R94). -/
def State.flushEntry (m : Master) (s : State) (i : OrtIndex) : State :=
  match (s.entry i).use with
  | none => s
  | some u =>
    if u.master = m then
      if u.kind = .writeP then
        if u.phase.counted then s.setUse i (some { u with failureReporting := false }) else s
      else if u.responseOwed then
        if u.phase.inLane then s.retire i u else if u.phase.isIssued then s.lapse i u else s
      else s
    else s

/-- The ORT acts on the entries of a flushed master in index order (R94). -/
def State.flushOrt (s : State) (m : Master) : State := ortIndices.foldl (State.flushEntry m) s

/-- The loss of target `t` at one entry (R95). -/
def State.loseEntry (t : Target) (s : State) (i : OrtIndex) : State :=
  match (s.entry i).use with
  | none => s
  | some u =>
    if u.target = t then
      if u.phase.counted then s.failEntry i u .targetLost else s.clearEntry i u
    else s

/-- The ORT acts on the entries of a lost target in index order (R95); a head that becomes head behind a
FENCE taken in this event is routed at its turn (R154, log 29). -/
def State.loseTarget (s : State) (t : Target) : State := ortIndices.foldl (State.loseEntry t) s

/-- The announcement that port `t` left UP is sent to the four Ingress Units (R128 step 5). -/
def State.announce (s : State) (t : Target) : State :=
  { s with announcements := Vector.ofFn fun m : Fin 4 =>
      s.announcements[m].set t (s.announcements[m][t] + 1) }

/-- Every master is told of a port that left a state (R129). -/
def State.notifyDown (s : State) (t : Target) (cause : DownCause) (left : TargetState) : State :=
  s.notifyAll (fun _ => true) (.targetDown t cause left)

/-- Port `t` goes DOWN with all its credit counts 0 (R128 steps 1 and 2). -/
def State.portDown (s : State) (t : Target) : State :=
  s.modTarget t fun p => { p with state := .down, posted := .zero, request := .zero }

/-- Port `t` leaves UP (R128). -/
def State.leaveUp (s : State) (t : Target) (cause : DownCause) : State :=
  (((s.portDown t).notifyDown t cause .up).loseTarget t).announce t

/-! ## The port flush of a master (R168) -/

/-- The Ingress Unit in a port flush (R71): both queues and the head record are emptied; the credit counts
become 0 for OFFLINE, and the discarded packets' credits become owed for QUARANTINED. -/
def Ingress.flush (g : Ingress) (dest : PortState) : Ingress :=
  if dest = .quarantined then
    { g with dataQueue := [], controlQueue := [], headPhase := .unrouted, headSlot := false,
             dataOwed := g.dataOwed + g.dataQueue.length,
             controlOwed := g.controlOwed + g.controlQueue.length }
  else Ingress.powerOn

/-- The Response Unit in a port flush (R150). -/
def State.flushResp (s : State) (m : Master) (r : ResponseUnit) : ResponseUnit :=
  s.zeroStall m { r with reserved := [], filled := [], notices := [], advertised := 0, credits := 0 }

/-- The port flush of master `m`, whose port goes to state `dest`, in the order of R168; the flush is
reported to the Plane Controller. -/
def State.flushPort (s : State) (m : Master) (dest : PortState) : State :=
  let s := s.modPort m fun p =>
    { p with state := dest, ingress := p.ingress.flush dest, resp := s.flushResp m p.resp,
             fence := FenceTracker.powerOn }
  let s := s.flushOrt m
  { s with flushReports := s.flushReports.set m (s.flushReports[m] + 1) }

/-- A QUARANTINED port becomes OFFLINE: its ingress counts are set to 0 (R173). -/
def State.exitQuarantine (s : State) (m : Master) : State :=
  s.modPort m fun p =>
    { p with state := .offline,
             ingress := { p.ingress with dataOutstanding := 0, dataOwed := 0,
                                         controlOutstanding := 0, controlOwed := 0 } }

end Sys2Proof.Machine
end

