-- ==== Sys2Proof/Machine/Admit.lean ====
section
/-! DEFINITION. What a routed data head does: refusal (R57), the admission attempt (R59 to R61), admission
(R63 to R65), rerouting (R66), and the resuming of the heads after HOLDING (R54). -/

namespace Sys2Proof.Machine

/-- The error response of a refused request (R57). -/
def Request.refusal (q : Request) (st : Status) : Response :=
  if q.isWrite then .writeDone q.tag st else .readDone q.tag st []

/-- The lowest-indexed FREE ORT entry (R63). -/
def State.freeIndex (s : State) : Option OrtIndex :=
  ortIndices.find? fun i => (s.entry i).use.isNone

/-- The Data Pool blocks a request needs: none for a READ (R92). -/
def Request.blocks (q : Request) : Nat := if q.isWrite then blocksFor q.length else 0

/-- Conditions 4 to 6 of R59: room under the quota, enough free blocks, room in the lane. Condition 3, a
FREE entry, is `freeIndex`. -/
def State.hasRoom (s : State) (m : Master) (q : Request) (r : Routing) : Bool :=
  decide (s.held[m] < (s.limits m).quota) && decide (q.blocks ≤ s.freeBlocks)
    && decide ((s.lane r.target m).length < 16)

/-- The fields of the ORT entry that admission creates (R63). -/
def State.newUse (s : State) (m : Master) (q : Request) (r : Routing) (k : Kind) : OrtUse :=
  { phase := .waiting (s.now + s.classValue r.deadlineClass), master := m, tag := q.tag, kind := k,
    cls := laneClass q.isWrite r.cls, plane := r.plane, window := r.window, target := r.target,
    address := r.address, length := q.length, blocks := q.blocks, data := q.data, retries := 0,
    responseOwed := k != .writeP, failureReporting := k == .writeP }

/-- The head's slot at admission: filled with WRITE_ACK for a posted write (R64), passed to the entry for
any other request (R65). -/
def ResponseUnit.admitHead (r : ResponseUnit) (i : OrtIndex) (q : Request) (k : Kind) : ResponseUnit :=
  if k = .writeP then r.fill .head (.writeAck q.tag) else r.pass .head (.ort i)

/-- The event that admits a head into the FREE entry `i` (R63). -/
def State.admitHead (s : State) (m : Master) (q : Request) (r : Routing) (k : Kind) (i : OrtIndex) : State :=
  let u := s.newUse m q r k
  let s := { s with ort := s.ort.set i { reuse := (s.entry i).reuse + 1, use := some u } }
  let s := s.setHeld m (s.held[m] + 1)
  let s := { s with freeBlocks := s.freeBlocks - u.blocks }
  let s := s.setLane r.target m (s.lane r.target m ++ [i])
  let s := s.setCount r.plane (s.refCounts[r.plane] + 1)
  let s := s.modResp m fun x => x.admitHead i q k
  s.dataLeaves m

/-- Steps 3 to 5 of R61, for a head whose routing is current and whose target is UP: in HOLDING or while
a resource is missing it waits, else it is admitted. -/
def State.admitOrWait (s : State) (m : Master) (q : Request) (r : Routing) (k : Kind) : State :=
  if s.planeState.isHolding then s
  else
    match s.freeIndex with
    | none => s
    | some i => if s.hasRoom m q r then s.admitHead m q r k i else s

/-- An UNROUTED head is routed. If it holds a slot, a refusal fills the slot in the same event (R57), and
a routing makes an admission attempt in the same event (R60, R66). -/
def State.routeHead (s : State) (m : Master) (q : Request) : State :=
  let ph := s.routePhase m q
  let s := s.setHeadPhase m ph
  if (s.port m).ingress.headSlot then
    match ph with
    | .unrouted => s
    | .refused st => (s.fill m .head (q.refusal st)).dataLeaves m
    | .routed r k => s.admitOrWait m q r k
  else s

/-- Steps 1 and 2 of R61: a routing is kept while its generation is current and its target is UP. -/
def State.routingCurrent (s : State) (r : Routing) : Bool :=
  r.generation == s.generation && (s.target r.target).state == .up

/-- An admission attempt of a ROUTED head that holds a slot, in the order of R61; a routing that is
discarded is made again by R66. -/
def State.attempt (s : State) (m : Master) (q : Request) (r : Routing) (k : Kind) : State :=
  if s.routingCurrent r then s.admitOrWait m q r k else s.routeHead m q

/-! ## Routing of waiting heads -/

/-- The data head of master `m` is routed if it is a READ or WRITE in UNROUTED (R54). -/
def State.routeUnrouted (s : State) (m : Master) : State :=
  match s.headRequest m, (s.port m).ingress.headPhase with
  | some q, .unrouted => s.routeHead m q
  | _, _ => s

/-- An arrangement of a list: every arrangement is reached by some number. -/
def arrange {α : Type} (k : Nat) : List α → List α
  | [] => []
  | a :: l => (arrange (k / (l.length + 1)) l).insertIdx (k % (l.length + 1)) a

/-- The heads of the masters of a list are routed in its order. -/
def State.routeWaiting (s : State) (order : List Master) : State := order.foldl State.routeUnrouted s

/-- The Plane Controller has left HOLDING: every head that waits UNROUTED is routed in the same event (R35,
R54), in an order that the spec leaves open (R62, log 26). -/
def State.resumeHeads (s : State) : State :=
  ({ s with choices := s.choices + 1 }).routeWaiting (arrange (Config.resumeOrder s.choices) allMasters)

end Sys2Proof.Machine
end

