-- ==== Sys2Proof/Machine/Admission.lean ====
section
/-! DEFINITION. The meanings of HEAD_ROUTING, SLOT_CLAIM_GRANT, ADMISSION_ATTEMPT,
TARGET_DOWN_ANNOUNCEMENT and FENCE_TAKE. A command whose event does not arise in the state changes nothing
(log 2). -/

namespace Sys2Proof.Machine

/-- HEAD_ROUTING (R54): a READ or WRITE head in UNROUTED is routed. The events that make a packet head, or
that leave HOLDING, do so themselves (log 1). -/
def execHeadRouting (m : Master) (s : State) : Host.Outcome State Fault Refusal :=
  takeEvent s fun s => s.routeUnrouted m

/-- SLOT_CLAIM_GRANT (R136): with a slot FREE, a REFUSED head reserves and fills it and leaves (R57); a
ROUTED head reserves it and makes its first admission attempt (R58, R60); a FENCE head reserves it and is
taken in the same event if the fence slot is EMPTY (R68, R153). -/
def execSlotClaimGrant (m : Master) (s : State) : Host.Outcome State Fault Refusal :=
  takeEvent s fun s =>
    if (s.port m).ingress.headSlot || !(s.port m).resp.hasFree then s
    else
      match s.dataHead m with
      | none => s
      | some pkt =>
        let granted :=
          (s.modResp m fun r => r.reserve .head).modIngress m fun g => { g with headSlot := true }
        match pkt.request? with
        | none => granted.takeReadyFence m
        | some q =>
          match (s.port m).ingress.headPhase with
          | .unrouted => s
          | .refused st => (s.modResp m fun r => r.fillFree (q.refusal st)).dataLeaves m
          | .routed r k => granted.attempt m q r k

/-- ADMISSION_ATTEMPT (R60, R61): a ROUTED head that holds a slot is rerouted, waits, or is admitted. -/
def execAdmissionAttempt (m : Master) (s : State) : Host.Outcome State Fault Refusal :=
  takeEvent s fun s =>
    match s.headRequest m, (s.port m).ingress.headPhase with
    | some q, .routed r k => if (s.port m).ingress.headSlot then s.attempt m q r k else s
    | _, _ => s

/-- TARGET_DOWN_ANNOUNCEMENT (R67): the Ingress Unit of master `m` takes one announcement that port `t`
left UP; a head whose routing names the port is routed again (R66). -/
def execTargetDownAnnouncement (m : Master) (t : Target) (s : State) :
    Host.Outcome State Fault Refusal :=
  takeEvent s fun s =>
    if s.announcements[m][t] = 0 then s
    else
      let s := s.setAnnouncement m t (s.announcements[m][t] - 1)
      match s.headRequest m, (s.port m).ingress.headPhase with
      | some q, .routed r _ => if r.target = t then s.routeHead m q else s
      | _, _ => s

/-- FENCE_TAKE (R153): a FENCE head that holds a slot is taken into the EMPTY fence slot. The events that
make it ready do so themselves (log 1). -/
def execFenceTake (m : Master) (s : State) : Host.Outcome State Fault Refusal :=
  takeEvent s fun s => s.takeReadyFence m

end Sys2Proof.Machine
end

