-- ==== Sys2Proof/Machine/Operands.lean ====
section
/-! DEFINITION. The argument bytes of a control operation (11.4): the catalogue's codes and argument
sizes, single arguments, and the window entry record with the checks of R20. -/

namespace Sys2Proof.Machine

/-- The operation codes of the catalogue (11.1). -/
def opGetWindow : Byte := 0x01
def opProbe : Byte := 0x02
def opGetPlaneStatus : Byte := 0x03
def opGetMasterStatus : Byte := 0x04
def opGetTargetStatus : Byte := 0x05
def opGetSettings : Byte := 0x06
def opClaimEdit : Byte := 0x07
def opReleaseEdit : Byte := 0x08
def opPutWindow : Byte := 0x09
def opRevertStaged : Byte := 0x0A
def opRequestSwitch : Byte := 0x0B
def opCancelSwitch : Byte := 0x0C
def opSetLeasePeriod : Byte := 0x0D
def opSetMasterLimits : Byte := 0x0E
def opSetDeadlines : Byte := 0x0F
def opClearQuarantine : Byte := 0x10
def opResetTarget : Byte := 0x11

/-- Whether an operation code is in the catalogue (section 10.3, R181). -/
def inCatalogue (code : Byte) : Bool := decide (1 ≤ code.toNat) && decide (code.toNat ≤ 17)

/-- Argument byte `i`. -/
def Operation.byte (op : Operation) (i : Nat) : Byte := op.args.getD i 0

/-- The argument of `k` bytes at byte `i`, little-endian (11.1). -/
def Operation.field (op : Operation) (i k : Nat) : Nat := leField op.args i k

/-- A byte as a number below `n`, if it is one. -/
def byteBelow (n : Nat) (b : Byte) : Option (Fin n) := if h : b.toNat < n then some ⟨b.toNat, h⟩ else none

/-- The window class of a class byte (11.1). -/
def classOf (b : Byte) : Option OrderClass :=
  match b.toNat with
  | 0 => some .posted
  | 1 => some .strict
  | 2 => some .relaxed
  | _ => none

/-- The access value of a pair of bits; the pair 3 is none (11.1, R191). -/
def accessOf (n : Nat) : Option Access :=
  match n with
  | 0 => some .none
  | 1 => some .read
  | 2 => some .readWrite
  | _ => none

/-- The access pair of master `m` in the access byte: bits 1:0 for M0 up to 7:6 for M3 (11.4). -/
def accessPair (b : Byte) (m : Master) : Nat := b.toNat / 4 ^ m.val % 4

/-- The four access values of the access byte, if each pair encodes one. -/
def accessVector (b : Byte) : Option (Vector Access 4) :=
  match accessOf (accessPair b 0), accessOf (accessPair b 1), accessOf (accessPair b 2),
    accessOf (accessPair b 3) with
  | some a0, some a1, some a2, some a3 => some #v[a0, a1, a2, a3]
  | _, _, _, _ => none

/-- The number of bytes of a window entry record (11.4). -/
def windowRecordBytes : Nat := 18

/-- Check 3 of R20: the fields of a window entry record that must lie in their value sets. -/
def recordFields (r : List Byte) : Option (Target × OrderClass × Vector Access 4) :=
  match byteBelow 6 (r.getD 2 0), classOf (r.getD 3 0), accessVector (r.getD 4 0) with
  | some t, some c, some a => some (t, c, a)
  | _, _, _ => none

/-- The entry of a window entry record whose fields passed check 3 (11.4). Bits not shown in the layout are
not read (log 12); with the translation-present bit clear the translated base is not read (R191). -/
def recordWindow (r : List Byte) (t : Target) (c : OrderClass) (a : Vector Access 4) : Window :=
  { enabled := (r.getD 0 0)[0], base := BitVec.ofNat 48 (leField r 6 6), sizeExp := (r.getD 1 0).toNat,
    target := t,
    translation := if (r.getD 0 0)[1] then some (BitVec.ofNat 48 (leField r 12 6)) else none,
    cls := c, access := a, deadlineClass := ⟨(r.getD 5 0).toNat % 4, by omega⟩,
    retryBudget := ⟨(r.getD 5 0).toNat / 16, by omega⟩ }

/-- Check 2 of R20: the size exponent is 12 to 40, or 0 for a disabled entry. -/
def sizeOk (enabled : Bool) (k : Nat) : Bool :=
  (decide (12 ≤ k) && decide (k ≤ 40)) || (!enabled && k == 0)

/-- Checks 4 and 5 of R20: an address is a multiple of the size. -/
def aligned (a : Address) (k : Nat) : Bool := a.toNat % 2 ^ k == 0

/-- The checks of R20 in order, on the index byte and the window entry record of PUT_WINDOW. -/
def checkPut (s : State) (index : Byte) (r : List Byte) : Except PutReason (WindowIndex × Window) :=
  match byteBelow 32 index with
  | none => .error .index
  | some i =>
    if !sizeOk (r.getD 0 0)[0] (r.getD 1 0).toNat then .error .size
    else
      match recordFields r with
      | none => .error .field
      | some (t, c, a) =>
        let w := recordWindow r t c a
        if w.enabled && !aligned w.base w.sizeExp then .error .baseAlign
        else if w.enabled && !(w.translation.all fun x => aligned x w.sizeExp) then .error .xlateAlign
        else if w.enabled && !s.targetPresent w.target then .error .targetAbsent
        else .ok (i, w)

/-- The mode byte of REQUEST_SWITCH (11.4). -/
def modeOf (b : Byte) : Option SwitchMode :=
  match b.toNat with
  | 0 => some .immediate
  | 1 => some .quiesced
  | _ => none

end Sys2Proof.Machine
end

