-- ==== Sys2Proof/Machine/Plane.lean ====
section
/-! DEFINITION. The Plane Controller's shared operations: flip (R31), reconciliation (R41), completion of a
held switch (R35), giving up a held switch (R36, R37), and its two counts' events (R39). An event that
leaves HOLDING routes the heads that waited for it (R54). -/

namespace Sys2Proof.Machine

/-- The flip: the generation advances by one and PLANE_FLIPPED goes to every ACTIVE master, the former holder
included (R31). A holder that was flushed in HOLDING and is ACTIVE again by a LINK_UP gets it too, though R170
excludes that master (DESIGN CHOICE, log 30). The state that follows the flip is set by the caller. -/
def State.flip (s : State) : State :=
  let g := s.generation + 1
  ({ s with generation := g }).notifyAll (fun _ => true) (.planeFlipped g (livePlane g))

/-- Copies the live plane into the other plane (R21, R41). -/
def State.copyLive (s : State) : State :=
  { s with planes := s.planes.set s.other s.planes[s.live] }

/-- Reconciliation: the live plane is copied into the other plane, the state becomes STEADY and
PLANE_SETTLED goes to every ACTIVE admin master (R41), in a held switch's completion with the choice of
log 30 for a flushed holder. -/
def State.reconcile (s : State) : State :=
  ({ s.copyLive with planeState := .steady }).notifyAll s.isAdmin (.planeSettled s.generation)

/-- A held switch completes: flip, reconciliation, STEADY (R33, R35). Where HOLDING was seen, the caller
resumes the heads. -/
def State.completeSwitch (s : State) : State := s.flip.reconcile

/-- An IMMEDIATE switch that passed its checks: flip, then reconciliation if the old plane's count is 0,
else DRAINING (R32). -/
def State.immediateSwitch (s : State) : State :=
  let t := s.flip
  if s.refCounts[s.live] = 0 then t.reconcile else { t with planeState := .draining }

/-- The return from HOLDING to EDITING with the lease timer started; the heads resume (R36, R37, R54). -/
def State.backToEditing (s : State) (h : Master) : State :=
  ({ s with planeState := .editing h s.leaseTimer }).resumeHeads

/-- What follows a count that has reached 0: reconciliation when it is the old plane's in DRAINING, the
completion of a held switch, in which the heads resume, when it is the live plane's in HOLDING (R35, R41,
R54). -/
def State.countZero (s : State) (p : PlaneId) : State :=
  match s.planeState with
  | .draining => if p = s.other then s.reconcile else s
  | .holding _ _ => if p = s.live then s.completeSwitch.resumeHeads else s
  | .steady => s
  | .editing _ _ => s

/-- The Plane Controller takes a decrement of plane `p` (R39). -/
def State.takeDecrement (s : State) (p : PlaneId) : State :=
  let n := s.refCounts[p] - 1
  let s := ({ s with decrements := s.decrements.set p (s.decrements[p] - 1) }).setCount p n
  if n = 0 then s.countZero p else s

/-- The Plane Controller takes the report that the port of master `m` was flushed: the holder's lease ends
in EDITING (R43), the holder's held switch is given up in HOLDING, and the heads resume (R44, R54). -/
def State.takeFlushReport (s : State) (m : Master) : State :=
  match s.planeState with
  | .editing h _ => if h = m then { s with planeState := .steady } else s
  | .holding h _ =>
    if h = m then
      (({ s with planeState := .steady }).notifyAll (fun a => s.isAdmin a && a != m)
        (.switchAbandoned .requesterLost s.generation)).resumeHeads
    else s
  | .steady => s
  | .draining => s

end Sys2Proof.Machine
end

