-- ==== Sys2Proof/Machine/Control.lean ====
section
/-! DEFINITION. The Control Unit: the take of a control head (R178), the delivery of CONTROL_DONE (R179,
R180), and the checks that precede an operation's own (R181, R191). -/

namespace Sys2Proof.Machine

/-- Whether master `m` has a control head and a FREE completion slot (R178). -/
def State.controlEligible (s : State) (m : Master) : Bool :=
  (s.controlHead m).isSome && (s.port m).resp.hasFree

/-- The masters in cyclic order from a master on (R106, R178). -/
def cycleFrom (p : Master) : List Master := [p, p + 1, p + 2, p + 3]

/-- CONTROL_TAKE (R178): the IDLE Control Unit takes the first eligible control head from its pointer on,
reserves the slot and becomes EXECUTING; the pointer moves past the master taken. -/
def execControlTake (s : State) : Host.Outcome State Fault Refusal :=
  takeEvent s fun s =>
    match s.control.op, (cycleFrom s.control.pointer).find? s.controlEligible with
    | none, some m =>
      match s.controlHead m with
      | none => s
      | some pkt =>
        let s := (s.modResp m fun r => r.reserve .control).modIngress m Ingress.controlLeaves
        { s with control :=
            { s.control with op := some ⟨m, pkt.tag, pkt.op, pkt.args⟩, pointer := m + 1 } }
    | _, _ => s

/-- The Control Unit delivers CONTROL_DONE into the slot the operation reserved, or drops it if a flush
removed the slot, and becomes IDLE (R179, R180). -/
def State.finish (s : State) (op : Operation) (code : ResultCode) (record : ResultRecord) : State :=
  let s := s.fill op.requester .control (.controlDone op.tag op.code code record)
  { s with control := { s.control with op := none } }

/-- The record of a refused plane operation: the state, the generation and the holder (R47). -/
def State.refusal (s : State) : ResultRecord :=
  .planeRefusal s.planeState.phase s.generation s.planeState.holder

/-- The holder of the lease in EDITING renews its lease timer; any other operation leaves it (R24). -/
def State.renewLease (s : State) (op : Operation) : State :=
  match s.planeState with
  | .editing h _ => if h = op.requester then { s with planeState := .editing h s.leaseTimer } else s
  | _ => s

/-- How an operation is carried out: who may send it, the size of its arguments, the record of its
NOT_ADMIN refusal, and what a FORM refusal still does. -/
structure Entry where
  code     : Byte
  admin    : Bool
  argBytes : Nat
  deriving DecidableEq, Repr

/-- An operation in execution is carried out if it is the one in the operation record (R179): NOT_ADMIN
(R181), then FORM (R191), then its own rule. -/
def carryOut (e : Entry) (notAdmin : State → ResultRecord) (onForm : Operation → State → State)
    (own : Operation → State → State) (s : State) : Host.Outcome State Fault Refusal :=
  takeEvent s fun s =>
    match s.control.op with
    | none => s
    | some op =>
      if op.code ≠ e.code then s
      else if e.admin && !s.isAdmin op.requester then s.finish op .notAdmin (notAdmin s)
      else if op.args.length ≠ e.argBytes then (onForm op s).finish op .badArgument .form
      else own op s

/-- A FORM refusal that changes no state (R191). -/
def keepState (_ : Operation) (s : State) : State := s

/-- A FORM refusal that renews the holder's lease timer in EDITING (R191). -/
def renewOnForm (op : Operation) (s : State) : State := s.renewLease op

/-- The NOT_ADMIN record of an operation that is no plane operation: no field (log 8). -/
def noRecord (_ : State) : ResultRecord := .empty

/-- A BAD_ARGUMENT refusal that names an argument by its place in the argument list (11.4). -/
def State.badArgument (s : State) (op : Operation) (index : Nat) : State :=
  s.finish op .badArgument (.argument index)

/-- UNKNOWN_OPERATION (R181): an operation code outside the catalogue is refused with the code received. -/
def execUnknownOperation (s : State) : Host.Outcome State Fault Refusal :=
  takeEvent s fun s =>
    match s.control.op with
    | none => s
    | some op =>
      if inCatalogue op.code then s else s.finish op .unknownOperation (.unknownOperation op.code)

end Sys2Proof.Machine
end

