-- ==== Sys2Proof/Machine/Formats.lean ====
section
/-! DEFINITION. The frames the part sends (11.2, 11.3) and the layouts of result records (11.4): the byte
encodings of the enumerations, little-endian fields, one function for each record. -/

namespace Sys2Proof.Machine

/-- A one-byte number (11.1). -/
def byteOf (n : Nat) : Byte := BitVec.ofNat 8 n

/-- The flag byte whose bit 0 is `a` and bit 1 is `b`. -/
def bits2 (a b : Bool) : Byte := byteOf (a.toNat + 2 * b.toNat)

/-! ## Encodings (11.1) -/

def Status.code : Status → Byte
  | .ok => 0
  | .badLength => 1
  | .noWindow => 2
  | .span => 3
  | .noAccess => 4
  | .targetDown => 5
  | .tagInUse => 6
  | .timeout => 7
  | .retryExhausted => 8
  | .targetError => 9
  | .targetLost => 10
  | .targetReject => 11

def ResultCode.code : ResultCode → Byte
  | .ok => 0
  | .unknownOperation => 1
  | .notAdmin => 2
  | .noLease => 3
  | .leaseHeld => 4
  | .busy => 5
  | .draining => 6
  | .invalidPlane => 7
  | .badArgument => 8
  | .notHolding => 9
  | .notQuarantined => 10

def PlanePhase.code : PlanePhase → Byte
  | .steady => 0
  | .editing => 1
  | .holding => 2
  | .draining => 3

def PortState.code : PortState → Byte
  | .offline => 0
  | .active => 1
  | .quarantined => 2

def TargetState.code : TargetState → Byte
  | .absent => 0
  | .down => 1
  | .training => 2
  | .up => 3

/-- WAITING 1, ISSUED 2, BACKOFF 3, LAPSED 4. -/
def OrtPhase.code : OrtPhase → Byte
  | .waiting _ => 1
  | .issued _ => 2
  | .backoff _ _ => 3
  | .lapsed _ => 4

def Kind.code : Kind → Byte
  | .read => 0
  | .writeNp => 1
  | .writeP => 2

def OrderClass.code : OrderClass → Byte
  | .posted => 0
  | .strict => 1
  | .relaxed => 2

def Access.code : Access → Nat
  | .none => 0
  | .read => 1
  | .readWrite => 2

def Role.code : Role → Byte
  | .live => 0
  | .staged => 1
  | .old => 2

def ProbeOutcome.code : ProbeOutcome → Byte
  | .hit => 0
  | .noWindow => 1
  | .noAccess => 2

def PutReason.code : PutReason → Byte
  | .index => 0
  | .size => 1
  | .field => 2
  | .baseAlign => 3
  | .xlateAlign => 4
  | .targetAbsent => 5

/-- The reason FORM (11.4). -/
def formReason : Byte := 6

def SwitchMode.code : SwitchMode → Byte
  | .immediate => 0
  | .quiesced => 1

def DownCause.code : DownCause → Byte
  | .linkLost => 0
  | .resetTarget => 1

def AbandonReason.code : AbandonReason → Byte
  | .drainLimit => 0
  | .requesterLost => 1

/-- The state left in a TARGET_DOWN notice: UP 0, TRAINING 1, DOWN 2 (11.2). A port in ABSENT sends none. -/
def TargetState.leftCode : TargetState → Byte
  | .up => 0
  | .training => 1
  | .down => 2
  | .absent => 3

/-- A master, or FFh for none (11.1). -/
def masterOrNone : Option Master → Byte
  | none => 0xFF
  | some m => byteOf m.val

/-! ## Records (11.4) -/

/-- The window entry record, 18 bytes. -/
def Window.bytes (w : Window) : List Byte :=
  [bits2 w.enabled w.translation.isSome, byteOf w.sizeExp, byteOf w.target.val, w.cls.code,
   byteOf (w.access[0].code + 4 * w.access[1].code + 16 * w.access[2].code + 64 * w.access[3].code),
   byteOf (w.deadlineClass.val + 16 * w.retryBudget.val)]
  ++ leBytes 6 w.base.toNat ++ leBytes 6 ((w.translation.getD 0).toNat)

def WindowReport.bytes (r : WindowReport) : List Byte :=
  [byteOf r.plane.val, r.role.code, r.phase.code, byteOf r.index.val]
  ++ leBytes 4 r.generation.toNat ++ r.entry.bytes

def ProbeReport.bytes (r : ProbeReport) : List Byte :=
  [r.outcome.code, byteOf r.plane.val, byteOf r.window.val, byteOf r.target.val]
  ++ leBytes 4 r.generation.toNat ++ leBytes 6 r.address.toNat
  ++ [r.cls.code, byteOf r.deadlineClass.val, byteOf r.retryBudget.val, 0]

def PlaneStatus.bytes (r : PlaneStatus) : List Byte :=
  [r.phase.code, byteOf r.live.val, masterOrNone r.holder, 0]
  ++ leBytes 4 r.generation.toNat ++ [byteOf r.count0, byteOf r.count1, 0, 0]
  ++ leBytes 4 r.leaseLeft ++ leBytes 4 r.drainLeft

def EntryItem.bytes (e : EntryItem) : List Byte :=
  [byteOf e.index.val, byteOf e.reuse.toNat, e.entry.phase.code, e.entry.kind.code,
   byteOf e.entry.tag.toNat, byteOf e.entry.target.val, byteOf e.entry.plane.val,
   byteOf e.entry.window.val]
  ++ leBytes 2 e.entry.length
  ++ [byteOf e.entry.retries, bits2 e.entry.responseOwed e.entry.failureReporting]
  ++ leBytes 4 e.deadlineLeft ++ leBytes 4 e.backoffLeft ++ leBytes 4 e.lapseLeft

def MasterStatus.bytes (r : MasterStatus) : List Byte :=
  [byteOf r.master.val, bits2 r.present r.admin, r.state.code, byteOf r.limits.quota,
   byteOf r.limits.weight, 0]
  ++ leBytes 2 r.limits.stall ++ leBytes 2 r.faults
  ++ [byteOf r.held, byteOf r.dataPackets, byteOf r.dataOutstanding, byteOf r.dataOwed,
      byteOf r.controlPackets, byteOf r.controlOutstanding, byteOf r.controlOwed,
      byteOf r.slotsInUse, byteOf r.noticesHeld, byteOf r.advertised, byteOf r.credits,
      byteOf r.fenceOccupied.toNat, byteOf r.fenceMembers, 0]
  ++ leBytes 2 r.fenceFailures ++ leBytes 2 r.postedFailures
  ++ [byteOf r.items.length, 0, 0, 0] ++ r.items.flatMap EntryItem.bytes

def Credits.bytes (c : Credits) : List Byte := [byteOf c.advertised, byteOf c.held, byteOf c.inUse]

def TargetStatus.bytes (r : TargetStatus) : List Byte :=
  [byteOf r.port.val, r.state.code] ++ r.posted.bytes ++ r.request.bytes
  ++ leBytes 2 r.stale ++ leBytes 2 r.creditFaults ++ r.lanes.toList.map byteOf
  ++ [byteOf r.issued, byteOf r.backoff, byteOf r.lapsed, 0]

def Limits.bytes (l : Limits) : List Byte := [byteOf l.quota, byteOf l.weight] ++ leBytes 2 l.stall

def SettingsReport.bytes (r : SettingsReport) : List Byte :=
  leBytes 2 r.leasePeriod ++ [0, 0] ++ r.deadlines.toList.flatMap (leBytes 4)
  ++ r.limits.toList.flatMap Limits.bytes
  ++ [r.straps.mpresent.setWidth 8, r.straps.tpresent.setWidth 8, r.straps.admin.setWidth 8,
      r.straps.bootsz.setWidth 8]

/-- The bytes of a result record. A record that 11.4 does not lay out holds the fields its rule lists, in
that order, at the widths of 11.1. -/
def ResultRecord.bytes : ResultRecord → List Byte
  | .empty => []
  | .unknownOperation op => [op]
  | .form => [formReason]
  | .argument i => [byteOf (Config.firstArgumentPosition + i)]
  | .putCheck reason index => [reason.code, index]
  | .planeRefusal ph g h => [ph.code] ++ leBytes 4 g.toNat ++ [masterOrNone h]
  | .leaseHeld h left => [byteOf h.val] ++ leBytes 4 left
  | .claimed h ms g p => [byteOf h.val] ++ leBytes 2 ms ++ leBytes 4 g.toNat ++ [byteOf p.val]
  | .released g => leBytes 4 g.toNat
  | .windowPut p g => [byteOf p.val] ++ leBytes 4 g.toNat
  | .reverted g => leBytes 4 g.toNat
  | .switched mode ph g p settled limit =>
    [mode.code, ph.code] ++ leBytes 4 g.toNat ++ [byteOf p.val, Config.settledByte settled]
    ++ (match limit with
      | none => []
      | some ms => leBytes 2 ms)
  | .invalidPlane i j => [byteOf i.val, byteOf j.val]
  | .cancelled g ms => [PlanePhase.editing.code] ++ leBytes 4 g.toNat ++ leBytes 2 ms
  | .window r => r.bytes
  | .probed r => r.bytes
  | .planeStatus r => r.bytes
  | .masterStatus r => r.bytes
  | .targetStatus r => r.bytes
  | .settings r => r.bytes
  | .periodSet before now => leBytes 2 before ++ leBytes 2 now
  | .limitsSet before now =>
    [byteOf before.quota, byteOf now.quota, byteOf before.weight, byteOf now.weight]
    ++ leBytes 2 before.stall ++ leBytes 2 now.stall
  | .deadlinesSet before now =>
    (List.finRange 4).flatMap fun d => leBytes 4 before[d] ++ leBytes 4 now[d]
  | .quarantineCleared m => [byteOf m.val, PortState.offline.code]
  | .targetReset t left => [byteOf t.val, left.code]

/-! ## Master link frames (11.2) -/

/-- The frame of a response. -/
def Response.bytes : Response → List Byte
  | .readDone tag st data => [0x81, tagByte tag, st.code, 0] ++ leBytes 2 data.length ++ data
  | .writeDone tag st => [0x82, tagByte tag, st.code]
  | .writeAck tag => [0x83, tagByte tag]
  | .fenceDone tag n => [0x84, tagByte tag] ++ leBytes 2 n
  | .controlDone tag op code record =>
    [0x85, tagByte tag, op, code.code] ++ leBytes 2 record.bytes.length ++ record.bytes

/-- The kind byte and fields of a notice, from byte 1 on. -/
def Notice.fields : Notice → List Byte
  | .planeFlipped g p => [1] ++ leBytes 4 g.toNat ++ [byteOf p.val]
  | .planeSettled g => [2] ++ leBytes 4 g.toNat
  | .switchAbandoned reason g => [3, reason.code] ++ leBytes 4 g.toNat
  | .leaseExpired g => [4] ++ leBytes 4 g.toNat
  | .postedFail tag t a len reason =>
    [5, tagByte tag, byteOf t.val, reason.code, 0] ++ leBytes 2 len ++ leBytes 6 a.toNat
  | .masterQuarantined m => [6, byteOf m.val]
  | .targetDown t cause left => [7, byteOf t.val, cause.code, left.leftCode]
  | .targetUp t p r => [8, byteOf t.val, byteOf p, byteOf r]
  | .overflow n => [9] ++ leBytes 2 n

/-- The frame of a notice: 16 bytes, unused bytes zero. -/
def Notice.bytes (n : Notice) : List Byte :=
  [0x90] ++ n.fields ++ List.replicate (15 - n.fields.length) 0

/-- The frame of an INGRESS_CREDIT. -/
def ingressCreditBytes (data control : Nat) : List Byte := [0xA0, byteOf data, byteOf control]

/-! ## Target link frames (11.3) -/

/-- The kind code of the request message of an entry: T_READ, T_WRITE, T_POST (R77). -/
def Kind.requestCode : Kind → Byte
  | .read => 0x01
  | .writeNp => 0x02
  | .writeP => 0x03

/-- The request message of an entry: its target tag, length and translated address, and its write data
(R77, R123). -/
def requestBytes (i : OrtIndex) (reuse : BitVec 2) (u : OrtUse) : List Byte :=
  [u.kind.requestCode, targetTag i reuse] ++ leBytes 2 u.length ++ leBytes 6 u.address.toNat
  ++ [0, 0] ++ u.data

end Sys2Proof.Machine
end

