-- ==== Sys2Proof/Machine/Issue.lean ====
section
/-! DEFINITION. Lanes and the Issue Arbiter: passing (R102), eligibility (R103), the offer (R104), the
grant and the issue (R106 to R108), and the meaning of GRANT_EVENT. -/

namespace Sys2Proof.Machine

/-- Whether an entry may pass an entry ahead of it, by their ordering classes (R102). -/
def mayPass : OrderClass → OrderClass → Bool
  | .posted, .posted => false
  | .posted, .strict => true
  | .posted, .relaxed => true
  | .strict, _ => false
  | .relaxed, _ => true

/-- The credits of the class an entry consumes: posted for a WRITE_P, request for any other kind (R101). -/
def TargetPort.creditsFor (p : TargetPort) (k : Kind) : Credits := if k = .writeP then p.posted else p.request

/-- Whether an entry is WAITING. -/
def OrtPhase.isWaiting : OrtPhase → Bool
  | .waiting _ => true
  | _ => false

/-- Whether an entry is eligible for issue behind the entries of the given classes (R103). -/
def OrtUse.eligible (u : OrtUse) (p : TargetPort) (ahead : List OrderClass) : Bool :=
  u.phase.isWaiting && decide (1 ≤ (p.creditsFor u.kind).held) && ahead.all (mayPass u.cls)

/-- The first eligible entry of a lane from its head, behind the entries of the given classes (R104). -/
def State.firstEligible (s : State) (p : TargetPort) : List OrderClass → List OrtIndex → Option OrtIndex
  | _, [] => none
  | ahead, i :: rest =>
    match (s.entry i).use with
    | none => s.firstEligible p ahead rest
    | some u => if u.eligible p ahead then some i else s.firstEligible p (u.cls :: ahead) rest

/-- The entry lane (t, m) offers (R104). -/
def State.offer (s : State) (t : Target) (m : Master) : Option OrtIndex :=
  s.firstEligible (s.target t) [] (s.lane t m)

/-- What a grant event of target `t` chooses: the master, its offered entry and the new run count (R106).
The run of the pointer's master goes on while its lane offers and its run count is below its weight;
otherwise the pointer moves to the next master whose lane offers, the pointer's master last. -/
def State.arbitrate (s : State) (t : Target) : Option (Master × OrtIndex × Nat) :=
  let p := s.target t
  let next := (cycleFrom (p.pointer + 1)).findSome? fun m => (s.offer t m).map fun i => (m, i, 1)
  match s.offer t p.pointer with
  | some i => if p.run < (s.limits p.pointer).weight then some (p.pointer, i, p.run + 1) else next
  | none => next

/-- The phase of an issued entry: its deadline timer keeps running (R108). -/
def OrtPhase.issue : OrtPhase → OrtPhase
  | .waiting d => .issued d
  | ph => ph

/-- The port spends one credit of the entry's class (R120). -/
def TargetPort.spend (p : TargetPort) (k : Kind) : TargetPort :=
  if k = .writeP then { p with posted := p.posted.spend } else { p with request := p.request.spend }

/-- The issue of entry `i` of master `m` to target `t` (R108): the message is sent, one credit is spent,
the entry leaves its lane and is ISSUED, and the Arbiter's pointer and run count are set. -/
def State.issue (s : State) (t : Target) (m : Master) (i : OrtIndex) (run : Nat) (u : OrtUse) : State :=
  let s := s.putTarget t (.frame (requestBytes i (s.entry i).reuse u))
  let s := s.modTarget t fun p => { p.spend u.kind with pointer := m, run := run }
  let s := s.setLane t m ((s.lane t m).erase i)
  s.setUse i (some { u with phase := u.phase.issue })

/-- GRANT_EVENT (R106, R107): the Issue Arbiter of target `t` grants one offered entry, if a lane
offers. -/
def execGrantEvent (t : Target) (s : State) : Host.Outcome State Fault Refusal :=
  takeEvent s fun s =>
    match s.arbitrate t with
    | none => s
    | some (m, i, run) =>
      match (s.entry i).use with
      | none => s
      | some u => s.issue t m i run u

end Sys2Proof.Machine
end

