-- ==== Sys2Proof/Machine/LeaseOps.lean ====
section
/-! DEFINITION. The meanings of the lease and switch operations CLAIM_EDIT, RELEASE_EDIT, REQUEST_SWITCH
and CANCEL_SWITCH, and of GET_PLANE_STATUS (chapter 2). -/

namespace Sys2Proof.Machine

/-- A claim granted or renewed: state EDITING with the requester as holder and the lease timer started
(R25). -/
def State.grantClaim (s : State) (op : Operation) : State :=
  ({ s with planeState := .editing op.requester s.leaseTimer }).finish op .ok
    (.claimed op.requester s.control.leasePeriod s.generation s.live)

/-- CLAIM_EDIT (R25). -/
def execClaimEdit (s : State) : Host.Outcome State Fault Refusal :=
  carryOut ⟨opClaimEdit, true, 0⟩ State.refusal keepState (fun op s =>
    match s.planeState with
    | .steady => s.grantClaim op
    | .editing h t =>
      if h = op.requester then s.grantClaim op
      else s.finish op .leaseHeld (.leaseHeld h (t.left s.now))
    | .holding _ _ => s.finish op .busy s.refusal
    | .draining => s.finish op .draining s.refusal) s

/-- RELEASE_EDIT (R26). -/
def execReleaseEdit (s : State) : Host.Outcome State Fault Refusal :=
  carryOut ⟨opReleaseEdit, true, 0⟩ State.refusal keepState (fun op s =>
    match s.planeState with
    | .editing h _ =>
      if h = op.requester then
        ({ s with planeState := .steady }).finish op .ok (.released s.generation)
      else s.finish op .noLease s.refusal
    | .holding h _ =>
      if h = op.requester then s.finish op .busy s.refusal else s.finish op .noLease s.refusal
    | .steady => s.finish op .noLease s.refusal
    | .draining => s.finish op .noLease s.refusal) s

/-- The record of a REQUEST_SWITCH that was taken, made from the state after it (R47). The settled
indication is yes for STEADY and no for DRAINING (R32, R33). For HOLDING the spec names none, and the model
answers no (DESIGN CHOICE, log 27). -/
def State.switchRecord (s : State) (mode : SwitchMode) (drainLimit : Option Nat) : ResultRecord :=
  .switched mode s.planeState.phase s.generation s.live (s.planeState.phase == .steady) drainLimit

/-- A QUIESCED switch that passed its checks: completed at once when the live count is 0, else HOLDING with
the drain limit timer started (R33). -/
def State.quiescedSwitch (s : State) (h : Master) (limit : Nat) : State :=
  if s.refCounts[s.live] = 0 then s.completeSwitch
  else { s with planeState := .holding h (s.startTimer limit) }

/-- Checks 5 and 6 of R29, and the switch itself (R30 to R33). -/
def State.switchBy (s : State) (op : Operation) : State :=
  match modeOf (op.byte 0) with
  | none => (s.renewLease op).badArgument op 0
  | some mode =>
    let limit := op.field 1 2
    if mode = .quiesced ∧ ¬(1 ≤ limit ∧ limit ≤ 1000) then (s.renewLease op).badArgument op 1
    else
      match firstOverlap s.planes[s.other] with
      | some (i, j) => (s.renewLease op).finish op .invalidPlane (.invalidPlane i j)
      | none =>
        match mode with
        | .immediate =>
          let s := s.immediateSwitch
          s.finish op .ok (s.switchRecord mode none)
        | .quiesced =>
          let s := s.quiescedSwitch op.requester limit
          s.finish op .ok (s.switchRecord mode (if s.planeState.isHolding then some limit else none))

/-- REQUEST_SWITCH (R29). -/
def execRequestSwitch (s : State) : Host.Outcome State Fault Refusal :=
  carryOut ⟨opRequestSwitch, true, 3⟩ State.refusal renewOnForm (fun op s =>
    match s.planeState with
    | .draining => s.finish op .draining s.refusal
    | .steady => s.finish op .noLease s.refusal
    | .holding h _ =>
      if h = op.requester then s.finish op .busy s.refusal else s.finish op .noLease s.refusal
    | .editing h _ => if h = op.requester then s.switchBy op else s.finish op .noLease s.refusal) s

/-- CANCEL_SWITCH (R37). From the holder in HOLDING the heads resume in the event, before the Control Unit
fills CONTROL_DONE with the result returned (R54, R179). -/
def execCancelSwitch (s : State) : Host.Outcome State Fault Refusal :=
  carryOut ⟨opCancelSwitch, true, 0⟩ State.refusal keepState (fun op s =>
    match s.planeState with
    | .holding h _ =>
      if h = op.requester then
        (s.backToEditing h).finish op .ok (.cancelled s.generation s.control.leasePeriod)
      else s.finish op .noLease s.refusal
    | .steady => s.finish op .notHolding s.refusal
    | .editing _ _ => s.finish op .notHolding s.refusal
    | .draining => s.finish op .notHolding s.refusal) s

/-- The record of the Plane Controller (R23, R182). -/
def State.planeStatus (s : State) : PlaneStatus :=
  { phase := s.planeState.phase, live := s.live, holder := s.planeState.holder,
    generation := s.generation, count0 := s.refCounts[0], count1 := s.refCounts[1],
    leaseLeft := match s.planeState with
      | .editing _ t => t.left s.now
      | _ => 0
    drainLeft := match s.planeState with
      | .holding _ t => t.left s.now
      | _ => 0 }

/-- GET_PLANE_STATUS (R182). -/
def execGetPlaneStatus (s : State) : Host.Outcome State Fault Refusal :=
  carryOut ⟨opGetPlaneStatus, false, 0⟩ noRecord keepState (fun op s =>
    s.finish op .ok (.planeStatus s.planeStatus)) s

end Sys2Proof.Machine
end

