-- ==== Sys2Proof/Machine/MapOps.lean ====
section
/-! DEFINITION. The meanings of the map operations GET_WINDOW, PUT_WINDOW, REVERT_STAGED and PROBE
(section 1.6). -/

namespace Sys2Proof.Machine

/-- The plane a role byte names: live 0, other 1 (11.4). -/
def State.rolePlane (s : State) (role : Byte) : Option PlaneId :=
  match role.toNat with
  | 0 => some s.live
  | 1 => some s.other
  | _ => none

/-- The role of a plane in the Plane Controller's state (R1, R18). -/
def State.roleOf (s : State) (p : PlaneId) : Role :=
  if p = s.live then .live else if s.planeState.phase = .draining then .old else .staged

/-- The record of GET_WINDOW (R18). -/
def State.windowReport (s : State) (p : PlaneId) (i : WindowIndex) : WindowReport :=
  { plane := p, role := s.roleOf p, phase := s.planeState.phase, index := i,
    generation := s.generation, entry := s.window p i }

/-- GET_WINDOW (R18): one entry of the live or other plane. Its arguments are checked in their order
(log 11). -/
def execGetWindow (s : State) : Host.Outcome State Fault Refusal :=
  carryOut ⟨opGetWindow, false, 2⟩ noRecord keepState (fun op s =>
    match s.rolePlane (op.byte 0), byteBelow 32 (op.byte 1) with
    | none, _ => s.badArgument op 0
    | some _, none => s.badArgument op 1
    | some p, some i => s.finish op .ok (.window (s.windowReport p i))) s

/-- The lookup of a PROBE: length 1, for the requester (R22). -/
def State.probeReport (s : State) (m : Master) (isWrite : Bool) (a : Address) : ProbeReport :=
  let report (o : ProbeOutcome) (r : Routing) : ProbeReport :=
    { outcome := o, plane := s.live, generation := s.generation, window := r.window,
      target := r.target, address := r.address, cls := r.cls, deadlineClass := r.deadlineClass,
      retryBudget := r.retryBudget }
  match s.lookup m isWrite a 1 with
  | .noWindow =>
    { outcome := .noWindow, plane := s.live, generation := s.generation, window := 0, target := 0,
      address := 0, cls := .strict, deadlineClass := 0, retryBudget := 0 }
  | .span r => report .noAccess r -- never for length 1: State.lookup_one_not_span
  | .noAccess r => report .noAccess r
  | .hit r => report .hit r

/-- PROBE (R22): the lookup outcome and routing of one address, read 0 or write 1. -/
def execProbe (s : State) : Host.Outcome State Fault Refusal :=
  carryOut ⟨opProbe, false, 7⟩ noRecord keepState (fun op s =>
    match byteBelow 2 (op.byte 6) with
    | none => s.badArgument op 1
    | some w =>
      s.finish op .ok (.probed
        (s.probeReport op.requester (w == 1) (BitVec.ofNat 48 (op.field 0 6))))) s

/-- The lease checks of PUT_WINDOW and REVERT_STAGED: NO_LEASE unless the requester holds the lease, BUSY
for the holder in HOLDING (R19, R21). -/
def State.asEditor (s : State) (op : Operation) (own : State → State) : State :=
  match s.planeState with
  | .editing h _ => if h = op.requester then own s else s.finish op .noLease s.refusal
  | .holding h _ =>
    if h = op.requester then s.finish op .busy s.refusal else s.finish op .noLease s.refusal
  | .steady => s.finish op .noLease s.refusal
  | .draining => s.finish op .noLease s.refusal

/-- PUT_WINDOW (R19, R20): the holder in EDITING checks one entry and stores it in the staged plane; the
lease timer is renewed, stored or refused. -/
def execPutWindow (s : State) : Host.Outcome State Fault Refusal :=
  carryOut ⟨opPutWindow, true, 1 + windowRecordBytes⟩ State.refusal renewOnForm (fun op s =>
    s.asEditor op fun s =>
      match checkPut s (op.byte 0) (op.args.drop 1) with
      | .error reason => (s.renewLease op).finish op .badArgument (.putCheck reason (op.byte 0))
      | .ok (i, w) =>
        let s := { s with planes := s.planes.set s.other (s.planes[s.other].set i w) }
        (s.renewLease op).finish op .ok (.windowPut s.other s.generation)) s

/-- REVERT_STAGED (R21): the live plane is copied into the staged plane; the lease timer is renewed. -/
def execRevertStaged (s : State) : Host.Outcome State Fault Refusal :=
  carryOut ⟨opRevertStaged, true, 0⟩ State.refusal renewOnForm (fun op s =>
    s.asEditor op fun s => (s.copyLive.renewLease op).finish op .ok (.reverted s.generation)) s

end Sys2Proof.Machine
end

