-- ==== Sys2Proof/Machine/MasterLink.lean ====
section
/-! DEFINITION. The meanings of the master link's packets and events: READ, WRITE, FENCE, CONTROL (R49 to
R52), LINK_UP (R165, R166), CREDIT (R142), LINK_RESET and MASTER_LINK_LOST (R166, R167), malformed frames
(R190). A port that is not strapped present takes none of them (R164). -/

namespace Sys2Proof.Machine

/-- An event of a master port that is strapped present (R164). -/
def takePortEvent (m : Master) (s : State) (f : State → State) : Host.Outcome State Fault Refusal :=
  takeEvent s fun s => if s.masterPresent m then f s else s

/-- A packet joins the control ingress queue against an outstanding credit (R49, R50). -/
def Ingress.takeControl (g : Ingress) (pkt : ControlPacket) : Ingress :=
  { g with controlQueue := g.controlQueue ++ [pkt], controlOutstanding := g.controlOutstanding - 1 }

/-- A data credit used by a discarded packet becomes owed again (R52, R190). -/
def Ingress.returnData (g : Ingress) : Ingress :=
  { g with dataOutstanding := g.dataOutstanding - 1, dataOwed := g.dataOwed + 1 }

/-- A control credit used by a discarded packet becomes owed again (R52, R190). -/
def Ingress.returnControl (g : Ingress) : Ingress :=
  { g with controlOutstanding := g.controlOutstanding - 1, controlOwed := g.controlOwed + 1 }

/-- A data request packet arrives: taken against a credit in ACTIVE, and routed in the event if it becomes
head (R49, R54), discarded with its credit returned in QUARANTINED (R52), a protocol fault without a credit
and in OFFLINE (R51, R52). -/
def State.arriveData (s : State) (m : Master) (pkt : DataPacket) : State :=
  let p := s.port m
  match p.state with
  | .offline => s.fault m
  | .active => if p.ingress.dataOutstanding = 0 then s.fault m else s.takeData m pkt
  | .quarantined =>
    if p.ingress.dataOutstanding = 0 then s.fault m else s.modIngress m Ingress.returnData

/-- A CONTROL packet arrives (R49, R51, R52). -/
def State.arriveControl (s : State) (m : Master) (pkt : ControlPacket) : State :=
  let p := s.port m
  match p.state with
  | .offline => s.fault m
  | .active =>
    if p.ingress.controlOutstanding = 0 then s.fault m
    else s.modIngress m fun g => g.takeControl pkt
  | .quarantined =>
    if p.ingress.controlOutstanding = 0 then s.fault m else s.modIngress m Ingress.returnControl

/-- A malformed frame is discarded and counted; a credit of the queue its kind names returns to the master
in ACTIVE and QUARANTINED (R190). -/
def State.malformedMaster (s : State) (m : Master) (q : FrameQueue) : State :=
  let p := s.port m
  let s := s.fault m
  if p.state = .offline then s
  else
    match q with
    | .data => if p.ingress.dataOutstanding = 0 then s else s.modIngress m Ingress.returnData
    | .control => if p.ingress.controlOutstanding = 0 then s else s.modIngress m Ingress.returnControl
    | .neither => s

/-- READ (R49 to R52). -/
def execRead (m : Master) (tag : Tag) (len : LengthField) (addr : Address) (s : State) :
    Host.Outcome State Fault Refusal :=
  takePortEvent m s fun s => s.arriveData m (.read tag len addr)

/-- WRITE (R49 to R52). Data that does not fit the length field makes a malformed frame (R190, log 18). -/
def execWrite (m : Master) (tag : Tag) (len : LengthField) (addr : Address) (data : List Byte)
    (s : State) : Host.Outcome State Fault Refusal :=
  takePortEvent m s fun s =>
    if writeDataFits len data then s.arriveData m (.write tag len addr data)
    else s.malformedMaster m .data

/-- FENCE (R49 to R52). -/
def execFence (m : Master) (tag : Tag) (s : State) : Host.Outcome State Fault Refusal :=
  takePortEvent m s fun s => s.arriveData m (.fence tag)

/-- CONTROL (R49 to R52). More argument bytes than the count byte can give make a malformed frame (R190,
log 18). -/
def execControl (m : Master) (tag : Tag) (op : Byte) (args : List Byte) (s : State) :
    Host.Outcome State Fault Refusal :=
  takePortEvent m s fun s =>
    if args.length ≤ 255 then s.arriveControl m ⟨tag, op, args⟩ else s.malformedMaster m .control

/-- The port at a LINK_UP that opens it (R165). -/
def State.openPort (s : State) (m : Master) (credits : Nat) (p : MasterPort) : MasterPort :=
  { p with
    state := .active,
    ingress := { p.ingress with dataOwed := 8, controlOwed := 2, dataOutstanding := 0,
                                controlOutstanding := 0 },
    resp := s.zeroStall m { p.resp with advertised := credits, credits := credits },
    fence := FenceTracker.powerOn }

/-- LINK_UP (R165, R166): in OFFLINE a count of 1 to 16 opens the port and any other count is a fault; in
ACTIVE it is a fault; in QUARANTINED it is discarded. -/
def execLinkUp (m : Master) (credits : Byte) (s : State) : Host.Outcome State Fault Refusal :=
  takePortEvent m s fun s =>
    match (s.port m).state with
    | .offline =>
      if 1 ≤ credits.toNat ∧ credits.toNat ≤ 16 then s.modPort m fun p => s.openPort m credits.toNat p
      else s.fault m
    | .active => s.fault m
    | .quarantined => s

/-- The response credits in use (R141). -/
def ResponseUnit.inUse (r : ResponseUnit) : Nat := r.advertised - r.credits

/-- CREDIT (R142, R166): in ACTIVE the returned credits are accepted up to the number in use, and an excess
is a fault; in other states it is discarded. -/
def execCredit (m : Master) (returned : Byte) (s : State) : Host.Outcome State Fault Refusal :=
  takePortEvent m s fun s =>
    let r := (s.port m).resp
    if (s.port m).state = .active then
      let s := s.modResp m fun r => { r with credits := r.credits + min returned.toNat r.inUse }
      if r.inUse < returned.toNat then s.fault m else s
    else s

/-- A LINK_RESET or the loss of the master link: a flush to OFFLINE in ACTIVE, OFFLINE without a flush in
QUARANTINED, no effect in OFFLINE (R166, R167, R173). -/
def State.closePort (s : State) (m : Master) : State :=
  match (s.port m).state with
  | .offline => s
  | .active => s.flushPort m .offline
  | .quarantined => s.exitQuarantine m

/-- LINK_RESET (R166). -/
def execLinkReset (m : Master) (s : State) : Host.Outcome State Fault Refusal :=
  takePortEvent m s fun s => s.closePort m

/-- MASTER_LINK_LOST (R167). -/
def execMasterLinkLost (m : Master) (s : State) : Host.Outcome State Fault Refusal :=
  takePortEvent m s fun s => s.closePort m

/-- MALFORMED_MASTER_FRAME (R190). A frame that is no malformed frame is no such event (log 18). -/
def execMalformedMasterFrame (m : Master) (frame : List Byte) (s : State) :
    Host.Outcome State Fault Refusal :=
  takePortEvent m s fun s =>
    if decodeMasterFrame m frame = .malformedMasterFrame m frame then
      s.malformedMaster m (frameQueue frame)
    else s

end Sys2Proof.Machine
end

