-- ==== Sys2Proof/Machine/PlaneEvents.lean ====
section
/-! DEFINITION. The meanings of LEASE_TIMER_EXPIRY, DRAIN_LIMIT_EXPIRY, PLANE_COUNT_DECREMENT and
FLUSH_REPORT. A command whose event does not arise in the state changes nothing (log 2); the expiry of a
running timer happens at its time, so the timebase has reached it (log 3). -/

namespace Sys2Proof.Machine

/-- LEASE_TIMER_EXPIRY (R27): the holder is cleared, the state becomes STEADY, LEASE_EXPIRED goes to the
former holder. -/
def execLeaseTimerExpiry (s : State) : Host.Outcome State Fault Refusal :=
  takeEvent s fun s =>
    match s.planeState with
    | .editing h t =>
      ({ s.advanceTo t.expiry with planeState := .steady }).notify h (.leaseExpired s.generation)
    | _ => s

/-- DRAIN_LIMIT_EXPIRY (R36): the held switch is given up, the holder keeps the lease with a fresh timer,
SWITCH_ABANDONED(DRAIN_LIMIT) goes to the holder, and the heads resume. -/
def execDrainLimitExpiry (s : State) : Host.Outcome State Fault Refusal :=
  takeEvent s fun s =>
    match s.planeState with
    | .holding h t =>
      ((s.advanceTo t.expiry).backToEditing h).notify h (.switchAbandoned .drainLimit s.generation)
    | _ => s

/-- PLANE_COUNT_DECREMENT (R39): the Plane Controller takes one decrement of plane `p` that was sent. -/
def execPlaneCountDecrement (p : PlaneId) (s : State) : Host.Outcome State Fault Refusal :=
  takeEvent s fun s => if s.decrements[p] = 0 then s else s.takeDecrement p

/-- FLUSH_REPORT (R43, R44): the Plane Controller takes one flush report of master `m` that was sent. -/
def execFlushReport (m : Master) (s : State) : Host.Outcome State Fault Refusal :=
  takeEvent s fun s =>
    if s.flushReports[m] = 0 then s
    else ({ s with flushReports := s.flushReports.set m (s.flushReports[m] - 1) }).takeFlushReport m

end Sys2Proof.Machine
end

