-- ==== Sys2Proof/Machine/Power.lean ====
section
/-! DEFINITION. The meanings of POWER_ON and PWRON_N_LOW (R193). -/

namespace Sys2Proof.Machine

/-- POWER_ON (R193): the straps are sampled and every piece of state takes its power-on value. Taken while
PWRON_N is already high, where no rising edge can arise, it is a new power-on all the same, as after a low
pulse (DESIGN CHOICE, log 31). The queue of commands and the model's choice counter are not the part's and
stay (log 23). -/
def execPowerOn (mpresent : BitVec 4) (tpresent : BitVec 6) (admin : BitVec 4) (bootsz : BitVec 2)
    (s : State) : Host.Outcome State Fault Refusal :=
  .next { State.powerOn ⟨mpresent, tpresent, admin, bootsz⟩ with
    pending := s.pending, choices := s.choices }

/-- PWRON_N_LOW (R193): every ORT entry, queue, notice, count and timer is lost and no event is taken until
POWER_ON. What the lost state reads as meanwhile is log 5. -/
def execPwronLow (s : State) : Host.Outcome State Fault Refusal :=
  .next { State.powerOn Straps.none with
    pwronN := false, pending := s.pending, choices := s.choices }

end Sys2Proof.Machine
end

