-- ==== Sys2Proof/Machine/SettingsOps.lean ====
section
/-! DEFINITION. The meanings of the settings operations SET_LEASE_PERIOD, SET_MASTER_LIMITS and
SET_DEADLINES (section 10.5), and of CLEAR_QUARANTINE and RESET_TARGET (section 10.6). -/

namespace Sys2Proof.Machine

/-- SET_LEASE_PERIOD (R186): a period of 1 to 1,000 ms, used from the next start of the lease timer. -/
def execSetLeasePeriod (s : State) : Host.Outcome State Fault Refusal :=
  carryOut ⟨opSetLeasePeriod, true, 2⟩ noRecord keepState (fun op s =>
    let p := op.field 0 2
    if 1 ≤ p ∧ p ≤ 1000 then
      ({ s with control := { s.control with leasePeriod := p } }).finish op .ok
        (.periodSet s.control.leasePeriod p)
    else s.badArgument op 0) s

/-- SET_MASTER_LIMITS (R187): quota 1 to 64, weight 1 to 8, stall limit 1 to 250 ms of one master. -/
def execSetMasterLimits (s : State) : Host.Outcome State Fault Refusal :=
  carryOut ⟨opSetMasterLimits, true, 5⟩ noRecord keepState (fun op s =>
    let l : Limits :=
      { quota := (op.byte 1).toNat, weight := (op.byte 2).toNat, stall := op.field 3 2 }
    match byteBelow 4 (op.byte 0) with
    | none => s.badArgument op 0
    | some m =>
      if ¬(1 ≤ l.quota ∧ l.quota ≤ 64) then s.badArgument op 1
      else if ¬(1 ≤ l.weight ∧ l.weight ≤ 8) then s.badArgument op 2
      else if ¬(1 ≤ l.stall ∧ l.stall ≤ 250) then s.badArgument op 3
      else
        ({ s with control := { s.control with limits := s.control.limits.set m l } }).finish op .ok
          (.limitsSet (s.limits m) l)) s

/-- Whether a deadline class value lies in range (R9, R188). -/
def deadlineOk (v : Nat) : Bool := decide (10 ≤ v) && decide (v ≤ 1000000)

/-- SET_DEADLINES (R188): the four class values, 10 to 1,000,000 µs each, checked in class order. -/
def execSetDeadlines (s : State) : Host.Outcome State Fault Refusal :=
  carryOut ⟨opSetDeadlines, true, 16⟩ noRecord keepState (fun op s =>
    let v : Vector Nat 4 := #v[op.field 0 4, op.field 4 4, op.field 8 4, op.field 12 4]
    match (List.finRange 4).find? fun d => !deadlineOk v[d] with
    | some d => s.badArgument op d.val
    | none =>
      ({ s with control := { s.control with deadlines := v } }).finish op .ok
        (.deadlinesSet s.control.deadlines v)) s

/-- CLEAR_QUARANTINE (R174): the link of a QUARANTINED master is forced down and its port becomes OFFLINE.
A requester that names itself is refused whatever its port has become since the take, as if it were still
ACTIVE (R172, R180, R189). -/
def execClearQuarantine (s : State) : Host.Outcome State Fault Refusal :=
  carryOut ⟨opClearQuarantine, true, 1⟩ noRecord keepState (fun op s =>
    match byteBelow 4 (op.byte 0) with
    | none => s.badArgument op 0
    | some m =>
      if m ≠ op.requester ∧ (s.port m).state = .quarantined then
        ((s.exitQuarantine m).putMaster m .linkDown).finish op .ok (.quarantineCleared m)
      else s.finish op .notQuarantined .empty) s

/-- RESET_TARGET (R130): a link reset is signalled and the port goes DOWN, leaving UP by R128 when it was
UP. -/
def execResetTarget (s : State) : Host.Outcome State Fault Refusal :=
  carryOut ⟨opResetTarget, true, 1⟩ noRecord keepState (fun op s =>
    match byteBelow 6 (op.byte 0) with
    | none => s.badArgument op 0
    | some t =>
      let left := (s.target t).state
      let reset := s.putTarget t .linkReset
      match left with
      | .absent => s.badArgument op 0
      | .up => (reset.leaveUp t .resetTarget).finish op .ok (.targetReset t .up)
      | .training =>
        ((reset.modTarget t fun p => { p with state := .down }).notifyDown t .resetTarget .training).finish
          op .ok (.targetReset t .training)
      | .down => (reset.notifyDown t .resetTarget .down).finish op .ok (.targetReset t .down)) s

end Sys2Proof.Machine
end

