-- ==== Sys2Proof/Machine/StatusOps.lean ====
section
/-! DEFINITION. The meanings of GET_MASTER_STATUS, GET_TARGET_STATUS and GET_SETTINGS (section 10.4). -/

namespace Sys2Proof.Machine

/-- The time left to an absolute time that may be absent: zero where absent (R73, R183). To a time that has
passed and whose expiry is not yet taken the spec gives no time left, and the model reports 0 (DESIGN
CHOICE, log 28). -/
def timeLeft (now : Nat) (t : Option Nat) : Nat :=
  match t with
  | none => 0
  | some t => t - now

/-- The list item of an ORT entry (R183). -/
def State.entryItem (s : State) (i : OrtIndex) (u : OrtUse) : EntryItem :=
  { index := i, reuse := (s.entry i).reuse, entry := u,
    deadlineLeft := timeLeft s.now u.phase.deadline?,
    backoffLeft := timeLeft s.now u.phase.backoffEnd?,
    lapseLeft := timeLeft s.now u.phase.lapseEnd? }

/-- The ORT entries of a master that are not FREE, in index order (R183). -/
def State.entryItems (s : State) (m : Master) : List EntryItem :=
  ortIndices.filterMap fun i =>
    match (s.entry i).use with
    | none => none
    | some u => if u.master = m then some (s.entryItem i u) else none

/-- The record of GET_MASTER_STATUS (R183). -/
def State.masterStatus (s : State) (m : Master) : MasterStatus :=
  let p := s.port m
  { master := m, present := s.masterPresent m, admin := s.isAdmin m, state := p.state,
    limits := s.limits m, faults := p.faults, held := s.held[m],
    dataPackets := p.ingress.dataQueue.length, dataOutstanding := p.ingress.dataOutstanding,
    dataOwed := p.ingress.dataOwed, controlPackets := p.ingress.controlQueue.length,
    controlOutstanding := p.ingress.controlOutstanding, controlOwed := p.ingress.controlOwed,
    slotsInUse := p.resp.slotsInUse, noticesHeld := p.resp.notices.length,
    advertised := p.resp.advertised, credits := p.resp.credits,
    fenceOccupied := p.fence.slot.isSome,
    fenceMembers := match p.fence.slot with
      | none => 0
      | some f => f.members.length
    fenceFailures := match p.fence.slot with
      | none => 0
      | some f => f.failures
    postedFailures := p.fence.postedFailures, items := s.entryItems m }

/-- GET_MASTER_STATUS (R183). -/
def execGetMasterStatus (s : State) : Host.Outcome State Fault Refusal :=
  carryOut ⟨opGetMasterStatus, false, 1⟩ noRecord keepState (fun op s =>
    match byteBelow 4 (op.byte 0) with
    | none => s.badArgument op 0
    | some m => s.finish op .ok (.masterStatus (s.masterStatus m))) s

/-- How many ORT entries name target `t` in a phase (R184). -/
def State.countAt (s : State) (t : Target) (phase : OrtPhase → Bool) : Nat :=
  ortIndices.countP fun i =>
    match (s.entry i).use with
    | none => false
    | some u => u.target == t && phase u.phase

/-- The record of GET_TARGET_STATUS (R184). -/
def State.targetStatus (s : State) (t : Target) : TargetStatus :=
  let p := s.target t
  { port := t, state := p.state, posted := p.posted, request := p.request, stale := p.stale,
    creditFaults := p.creditFaults, lanes := Vector.ofFn fun m : Fin 4 => (s.lane t m).length,
    issued := s.countAt t OrtPhase.isIssued, backoff := s.countAt t OrtPhase.isBackoff,
    lapsed := s.countAt t OrtPhase.isLapsed }

/-- GET_TARGET_STATUS (R184). -/
def execGetTargetStatus (s : State) : Host.Outcome State Fault Refusal :=
  carryOut ⟨opGetTargetStatus, false, 1⟩ noRecord keepState (fun op s =>
    match byteBelow 6 (op.byte 0) with
    | none => s.badArgument op 0
    | some t => s.finish op .ok (.targetStatus (s.targetStatus t))) s

/-- The record of GET_SETTINGS (R185). -/
def State.settingsReport (s : State) : SettingsReport :=
  { leasePeriod := s.control.leasePeriod, deadlines := s.control.deadlines,
    limits := s.control.limits, straps := s.straps }

/-- GET_SETTINGS (R185). -/
def execGetSettings (s : State) : Host.Outcome State Fault Refusal :=
  carryOut ⟨opGetSettings, false, 0⟩ noRecord keepState (fun op s =>
    s.finish op .ok (.settings s.settingsReport)) s

end Sys2Proof.Machine
end

