-- ==== Sys2Proof/Machine/TargetLink.lean ====
section
/-! DEFINITION. The meanings of the target link's events: link detected and lost (R116, R127), T_READY
(R117, R119), T_CREDIT (R118, R121), the four answers (R78 to R81, R118), malformed frames (R192). A
command whose event does not arise in the state changes nothing (log 2). -/

namespace Sys2Proof.Machine

/-- TARGET_LINK_DETECTED (R116): DOWN to TRAINING. -/
def execTargetLinkDetected (t : Target) (s : State) : Host.Outcome State Fault Refusal :=
  takeEvent s fun s =>
    if (s.target t).state = .down then s.modTarget t fun p => { p with state := .training } else s

/-- TARGET_LINK_LOST (R127): a port leaves UP by R128, or goes from TRAINING to DOWN with a notice. -/
def execTargetLinkLost (t : Target) (s : State) : Host.Outcome State Fault Refusal :=
  takeEvent s fun s =>
    match (s.target t).state with
    | .up => s.leaveUp t .linkLost
    | .training =>
      (s.modTarget t fun p => { p with state := .down }).notifyDown t .linkLost .training
    | .down => s
    | .absent => s

/-- T_READY (R117, R119): in TRAINING with both counts 1 to 32 the port goes UP with its credits and
TARGET_UP; otherwise, in TRAINING and in UP, it is a credit fault. -/
def execTReady (t : Target) (posted request : Byte) (s : State) : Host.Outcome State Fault Refusal :=
  takeEvent s fun s =>
    match (s.target t).state with
    | .training =>
      if (1 ≤ posted.toNat ∧ posted.toNat ≤ 32) ∧ (1 ≤ request.toNat ∧ request.toNat ≤ 32) then
        (s.modTarget t fun p =>
          { p with state := .up, posted := .grant posted.toNat, request := .grant request.toNat }).notifyAll
          (fun _ => true) (.targetUp t posted.toNat request.toNat)
      else s.countCreditFault t
    | .up => s.countCreditFault t
    | .down => s
    | .absent => s

/-- T_CREDIT (R118, R121): in UP each class accepts returns up to its in-use count, and an excess of either
class is one credit fault; in TRAINING it is a credit fault. -/
def execTCredit (t : Target) (posted request : Byte) (s : State) : Host.Outcome State Fault Refusal :=
  takeEvent s fun s =>
    let p := s.target t
    match p.state with
    | .up =>
      let s := s.modTarget t fun p =>
        { p with posted := p.posted.restore posted.toNat, request := p.request.restore request.toNat }
      if p.posted.inUse < posted.toNat ∨ p.request.inUse < request.toNat then s.countCreditFault t else s
    | .training => s.countCreditFault t
    | .down => s
    | .absent => s

/-- The four kinds of answer (section 4.4). -/
inductive Answer
  | complete
  | accept
  | reject
  | retry
  deriving DecidableEq, Repr

/-- Whether an answer fits the kind of an ISSUED entry (section 4.4). -/
def Answer.fits : Answer → Kind → Bool
  | .complete, .writeP => false
  | .complete, _ => true
  | .accept, .writeP => true
  | .accept, _ => false
  | .reject, .writeP => true
  | .reject, _ => false
  | .retry, _ => true

/-- What takes an answer (R78). -/
inductive Taker
  | stale
  | issued (i : OrtIndex) (u : OrtUse)
  | lapsed (i : OrtIndex) (u : OrtUse)
  deriving DecidableEq, Repr

/-- The entry that takes an answer of a kind with a target tag that arrived on port `t` (R78). -/
def State.taker (s : State) (t : Target) (tag : Byte) (a : Answer) : Taker :=
  let i := targetTagIndex tag
  match (s.entry i).use with
  | none => .stale
  | some u =>
    if (s.entry i).reuse = targetTagReuse tag ∧ u.target = t then
      match u.phase with
      | .issued _ => if a.fits u.kind then .issued i u else .stale
      | .lapsed _ => .lapsed i u
      | _ => .stale
    else .stale

/-- An answer on port `t`: stale in TRAINING (R118); in UP taken by an ISSUED entry as `act` says, by a
LAPSED entry, which it frees silently (R85), or stale (R78). -/
def State.answer (s : State) (t : Target) (tag : Byte) (a : Answer)
    (act : OrtIndex → OrtUse → State) : State :=
  match (s.target t).state with
  | .up =>
    match s.taker t tag a with
    | .stale => s.countStale t
    | .issued i u => act i u
    | .lapsed i u => s.clearEntry i u
  | .training => s.countStale t
  | .down => s
  | .absent => s

/-- A malformed frame on a target link counts a credit fault for T_READY and T_CREDIT, and a stale frame
otherwise, on an established link (R192, log 16). -/
def State.malformedTarget (s : State) (t : Target) (frame : List Byte) : State :=
  match (s.target t).state with
  | .up => if frameCountsCreditFault frame then s.countCreditFault t else s.countStale t
  | .training => if frameCountsCreditFault frame then s.countCreditFault t else s.countStale t
  | .down => s
  | .absent => s

/-- Whether a T_COMPLETE fits its entry: status OK, and data of the entry's length for a READ, none for a
WRITE_NP (R79). Every status byte but 0 is FAULT (R192). -/
def completeFits (u : OrtUse) (status : Byte) (data : List Byte) : Bool :=
  status == 0 && (if u.kind = .read then data.length == u.length else data.isEmpty)

/-- A T_COMPLETE taken by an ISSUED READ or WRITE_NP entry retires it with READ_DONE or WRITE_DONE
(R79). -/
def State.complete (s : State) (i : OrtIndex) (u : OrtUse) (status : Byte) (data : List Byte) : State :=
  let ok := completeFits u status data
  let s := s.retire i u
  if u.responseOwed then
    s.respond i u (if ok then .ok else .targetError) (if ok then data else [])
  else s

/-- T_COMPLETE (R79). Data longer than 256 bytes makes a malformed frame (R192). -/
def execTComplete (t : Target) (tag status : Byte) (data : List Byte) (s : State) :
    Host.Outcome State Fault Refusal :=
  takeEvent s fun s =>
    if 256 < data.length then s.malformedTarget t [0x22]
    else s.answer t tag .complete fun i u => s.complete i u status data

/-- T_ACCEPT (R80): an ISSUED WRITE_P entry retires as delivered. -/
def execTAccept (t : Target) (tag _status : Byte) (s : State) : Host.Outcome State Fault Refusal :=
  takeEvent s fun s =>
    s.answer t tag .accept fun i u =>
      let s := s.retire i u
      if u.failureReporting then s.fenceReport u.master i false else s

/-- T_REJECT (R80): an ISSUED WRITE_P entry retires as failed with TARGET_REJECT. -/
def execTReject (t : Target) (tag _status : Byte) (s : State) : Host.Outcome State Fault Refusal :=
  takeEvent s fun s => s.answer t tag .reject fun i u => s.failEntry i u .targetReject

/-- A T_RETRY taken by an ISSUED entry: with budget and lane room left it goes to BACKOFF at the head of
its lane, else it fails with RETRY_EXHAUSTED (R81, R82). -/
def State.retry (s : State) (i : OrtIndex) (u : OrtUse) : State :=
  let lane := s.lane u.target u.master
  if u.retries < (s.window u.plane u.window).retryBudget.val ∧ lane.length < 16 then
    let n := u.retries + 1
    match u.phase.deadline? with
    | none => s
    | some d =>
      (s.setLane u.target u.master (i :: lane)).setUse i
        (some { u with phase := .backoff d (s.now + backoffTime n), retries := n })
  else s.failEntry i u .retryExhausted

/-- T_RETRY (R81). -/
def execTRetry (t : Target) (tag : Byte) (s : State) : Host.Outcome State Fault Refusal :=
  takeEvent s fun s => s.answer t tag .retry fun i u => s.retry i u

/-- MALFORMED_TARGET_FRAME (R192): the frame is discarded and counted. A frame that is no malformed frame
is no such event (log 18). -/
def execMalformedTargetFrame (t : Target) (frame : List Byte) (s : State) :
    Host.Outcome State Fault Refusal :=
  takeEvent s fun s =>
    if decodeTargetFrame t frame = .malformedTargetFrame t frame then s.malformedTarget t frame else s

end Sys2Proof.Machine
end

