-- ==== Sys2Proof/Machine/Timers.lean ====
section
/-! DEFINITION. The meanings of DEADLINE_EXPIRY, LAPSE_END, BACKOFF_END and STALL_EXPIRY. An expiry is an
event only while its timer runs (R75, R149, log 2); it happens at its time, so the timebase has reached it
(R76, R193, log 3). -/

namespace Sys2Proof.Machine

/-- The deadline of an entry expires: in WAITING or BACKOFF it retires to FREE with TIMEOUT (R83), in
ISSUED it fails with TIMEOUT and goes to LAPSED (R84). -/
def State.expire (s : State) (i : OrtIndex) (u : OrtUse) : State :=
  if u.phase.isIssued then (s.lapse i u).reportFailure i u .timeout else s.failEntry i u .timeout

/-- DEADLINE_EXPIRY (R76, R83, R84): the deadline timer of the entry runs, and the timebase has reached
it. -/
def execDeadlineExpiry (i : OrtIndex) (s : State) : Host.Outcome State Fault Refusal :=
  takeEvent s fun s =>
    match (s.entry i).use with
    | none => s
    | some u =>
      match u.phase.deadline? with
      | none => s
      | some d => (s.advanceTo d).expire i u

/-- LAPSE_END (R85): a LAPSED entry is freed silently at its lapse end. -/
def execLapseEnd (i : OrtIndex) (s : State) : Host.Outcome State Fault Refusal :=
  takeEvent s fun s =>
    match (s.entry i).use with
    | none => s
    | some u =>
      match u.phase.lapseEnd? with
      | none => s
      | some l => (s.advanceTo l).clearEntry i u

/-- BACKOFF_END (R82): an entry goes from BACKOFF to WAITING and keeps its place in the lane. -/
def execBackoffEnd (i : OrtIndex) (s : State) : Host.Outcome State Fault Refusal :=
  takeEvent s fun s =>
    match (s.entry i).use with
    | none => s
    | some u =>
      match u.phase with
      | .backoff d b => (s.advanceTo b).setUse i (some { u with phase := .waiting d })
      | _ => s

/-- STALL_EXPIRY (R149, R171): the running stall timer of master `m` reaches its limit; the port becomes
QUARANTINED and is flushed, and MASTER_QUARANTINED goes to every other ACTIVE master. -/
def execStallExpiry (m : Master) (s : State) : Host.Outcome State Fault Refusal :=
  takeEvent s fun s =>
    if (s.port m).stallRuns then
      let r := (s.port m).resp
      ((s.passTime (1000 * r.stallLimit - r.stallElapsed)).flushPort m .quarantined).notifyAll
        (fun a => a != m) (.masterQuarantined m)
    else s

end Sys2Proof.Machine
end

