-- ==== Sys2Proof/Machine/Transmit.lean ====
section
/-! DEFINITION. The transmitter of a master link: the meaning of SEND_EVENT (R143 to R146). -/

namespace Sys2Proof.Machine

/-- What a transmitter sends in a send event (R144). -/
inductive SendChoice
  | ingressCredit
  | notice (n : Notice)
  | response (r : Response)
  | nothing
  deriving DecidableEq, Repr

/-- The choice of a send event: an INGRESS_CREDIT when an owed count is above 0; in ACTIVE with a response
credit held, the oldest notice, else the oldest FILLED response (R143, R144). -/
def MasterPort.sendChoice (p : MasterPort) : SendChoice :=
  if p.state = .offline then .nothing
  else if 0 < p.ingress.dataOwed ∨ 0 < p.ingress.controlOwed then .ingressCredit
  else if p.state = .active ∧ 0 < p.resp.credits then
    match p.resp.notices, p.resp.filled with
    | n :: _, _ => .notice n
    | [], r :: _ => .response r
    | [], [] => .nothing
  else .nothing

/-- Both owed counts are carried to the master: added to the outstanding counts and set to 0 (R50, R145). -/
def Ingress.sendCredits (g : Ingress) : Ingress :=
  { g with dataOutstanding := g.dataOutstanding + g.dataOwed, dataOwed := 0,
           controlOutstanding := g.controlOutstanding + g.controlOwed, controlOwed := 0 }

/-- A response credit is spent and the stall timer is set to zero (R145, R148). -/
def State.spendCredit (s : State) (m : Master) (r : ResponseUnit) : ResponseUnit :=
  s.zeroStall m { r with credits := r.credits - 1 }

/-- SEND_EVENT (R144, R145): the transmitter of master `m` sends one packet. -/
def execSendEvent (m : Master) (s : State) : Host.Outcome State Fault Refusal :=
  takeEvent s fun s =>
    let g := (s.port m).ingress
    match (s.port m).sendChoice with
    | .ingressCredit =>
      (s.modIngress m Ingress.sendCredits).putMaster m
        (.frame (ingressCreditBytes g.dataOwed g.controlOwed))
    | .notice n =>
      (s.modResp m fun r => s.spendCredit m { r with notices := r.notices.tail }).putMaster m
        (.frame n.bytes)
    | .response x =>
      (s.modResp m fun r => s.spendCredit m { r with filled := r.filled.tail }).putMaster m
        (.frame x.bytes)
    | .nothing => s

end Sys2Proof.Machine
end

