-- ==== Sys2Proof/Machine/Dispatch.lean ====
section
/-! DEFINITION. One arm for each command: its meaning. -/

namespace Sys2Proof.Machine

def exec (i : Instr) (s : State) : Host.Outcome State Fault Refusal :=
  match i with
  | .powerOn mpresent tpresent admin bootsz => Sys2Proof.Machine.execPowerOn mpresent tpresent admin bootsz s
  | .pwronLow => Sys2Proof.Machine.execPwronLow s
  | .read m tag len addr => Sys2Proof.Machine.execRead m tag len addr s
  | .write m tag len addr data => Sys2Proof.Machine.execWrite m tag len addr data s
  | .fence m tag => Sys2Proof.Machine.execFence m tag s
  | .control m tag op args => Sys2Proof.Machine.execControl m tag op args s
  | .linkUp m credits => Sys2Proof.Machine.execLinkUp m credits s
  | .credit m returned => Sys2Proof.Machine.execCredit m returned s
  | .linkReset m => Sys2Proof.Machine.execLinkReset m s
  | .masterLinkLost m => Sys2Proof.Machine.execMasterLinkLost m s
  | .malformedMasterFrame m frame => Sys2Proof.Machine.execMalformedMasterFrame m frame s
  | .headRouting m => Sys2Proof.Machine.execHeadRouting m s
  | .slotClaimGrant m => Sys2Proof.Machine.execSlotClaimGrant m s
  | .admissionAttempt m => Sys2Proof.Machine.execAdmissionAttempt m s
  | .targetDownAnnouncement m t => Sys2Proof.Machine.execTargetDownAnnouncement m t s
  | .fenceTake m => Sys2Proof.Machine.execFenceTake m s
  | .controlTake => Sys2Proof.Machine.execControlTake s
  | .getWindow => Sys2Proof.Machine.execGetWindow s
  | .probe => Sys2Proof.Machine.execProbe s
  | .getPlaneStatus => Sys2Proof.Machine.execGetPlaneStatus s
  | .getMasterStatus => Sys2Proof.Machine.execGetMasterStatus s
  | .getTargetStatus => Sys2Proof.Machine.execGetTargetStatus s
  | .getSettings => Sys2Proof.Machine.execGetSettings s
  | .claimEdit => Sys2Proof.Machine.execClaimEdit s
  | .releaseEdit => Sys2Proof.Machine.execReleaseEdit s
  | .putWindow => Sys2Proof.Machine.execPutWindow s
  | .revertStaged => Sys2Proof.Machine.execRevertStaged s
  | .requestSwitch => Sys2Proof.Machine.execRequestSwitch s
  | .cancelSwitch => Sys2Proof.Machine.execCancelSwitch s
  | .setLeasePeriod => Sys2Proof.Machine.execSetLeasePeriod s
  | .setMasterLimits => Sys2Proof.Machine.execSetMasterLimits s
  | .setDeadlines => Sys2Proof.Machine.execSetDeadlines s
  | .clearQuarantine => Sys2Proof.Machine.execClearQuarantine s
  | .resetTarget => Sys2Proof.Machine.execResetTarget s
  | .unknownOperation => Sys2Proof.Machine.execUnknownOperation s
  | .leaseTimerExpiry => Sys2Proof.Machine.execLeaseTimerExpiry s
  | .drainLimitExpiry => Sys2Proof.Machine.execDrainLimitExpiry s
  | .planeCountDecrement p => Sys2Proof.Machine.execPlaneCountDecrement p s
  | .flushReport m => Sys2Proof.Machine.execFlushReport m s
  | .grantEvent t => Sys2Proof.Machine.execGrantEvent t s
  | .targetLinkDetected t => Sys2Proof.Machine.execTargetLinkDetected t s
  | .targetLinkLost t => Sys2Proof.Machine.execTargetLinkLost t s
  | .tReady t posted request => Sys2Proof.Machine.execTReady t posted request s
  | .tCredit t posted request => Sys2Proof.Machine.execTCredit t posted request s
  | .tComplete t tag status data => Sys2Proof.Machine.execTComplete t tag status data s
  | .tAccept t tag status => Sys2Proof.Machine.execTAccept t tag status s
  | .tReject t tag status => Sys2Proof.Machine.execTReject t tag status s
  | .tRetry t tag => Sys2Proof.Machine.execTRetry t tag s
  | .malformedTargetFrame t frame => Sys2Proof.Machine.execMalformedTargetFrame t frame s
  | .deadlineExpiry index => Sys2Proof.Machine.execDeadlineExpiry index s
  | .lapseEnd index => Sys2Proof.Machine.execLapseEnd index s
  | .backoffEnd index => Sys2Proof.Machine.execBackoffEnd index s
  | .stallExpiry m => Sys2Proof.Machine.execStallExpiry m s
  | .sendEvent m => Sys2Proof.Machine.execSendEvent m s

end Sys2Proof.Machine
end

