-- ==== Sys2Proof/Machine/Idle.lean ====
section
/-! DEFINITION. What the part does by itself when no command waits (log 3): the events that are ready, the
tick of the timebase, and the free choice among them. -/

namespace Sys2Proof.Machine

/-- Keeps a command when its event is ready. -/
def readyIf (b : Bool) (c : Instr) : List Instr := if b then [c] else []

/-- HEAD_ROUTING is ready: an UNROUTED head whose length is out of range, or that need not wait for HOLDING
to end (R54). -/
def State.routingReady (s : State) (m : Master) : Bool :=
  match s.headRequest m with
  | none => false
  | some q =>
    (s.port m).ingress.headPhase == .unrouted && s.routePhase m q != .unrouted

/-- A data head or FENCE head claims a slot (R136): it holds none, and it is REFUSED, ROUTED or a FENCE. -/
def State.claims (s : State) (m : Master) : Bool :=
  !(s.port m).ingress.headSlot &&
    match s.dataHead m with
    | none => false
    | some pkt => pkt.request?.isNone || (s.port m).ingress.headPhase != .unrouted

/-- An admission attempt would reroute or admit the head (R61). -/
def State.attemptReady (s : State) (m : Master) : Bool :=
  (s.port m).ingress.headSlot &&
    match s.headRequest m, (s.port m).ingress.headPhase with
    | some q, .routed r _ =>
      !s.routingCurrent r ||
        (!s.planeState.isHolding && s.freeIndex.isSome && s.hasRoom m q r)
    | _, _ => false

/-- The command that carries out an operation code (11.1). -/
def operationCommand (code : Byte) : Instr :=
  match code.toNat with
  | 1 => .getWindow
  | 2 => .probe
  | 3 => .getPlaneStatus
  | 4 => .getMasterStatus
  | 5 => .getTargetStatus
  | 6 => .getSettings
  | 7 => .claimEdit
  | 8 => .releaseEdit
  | 9 => .putWindow
  | 10 => .revertStaged
  | 11 => .requestSwitch
  | 12 => .cancelSwitch
  | 13 => .setLeasePeriod
  | 14 => .setMasterLimits
  | 15 => .setDeadlines
  | 16 => .clearQuarantine
  | 17 => .resetTarget
  | _ => .unknownOperation

/-- The Control Unit's ready event: a take when it is IDLE and a head is eligible (R178), else the
operation in execution (R179). -/
def State.controlReady (s : State) : List Instr :=
  match s.control.op with
  | none => readyIf (allMasters.any s.controlEligible) .controlTake
  | some op => [operationCommand op.code]

/-- The ready events of the blocks of master `m`. -/
def State.masterReady (s : State) (m : Master) : List Instr :=
  readyIf (s.routingReady m) (.headRouting m)
  ++ readyIf (s.claims m && (s.port m).resp.hasFree) (.slotClaimGrant m)
  ++ readyIf (s.attemptReady m) (.admissionAttempt m)
  ++ readyIf ((s.fenceHeadReady m).isSome && (s.port m).fence.slot.isNone) (.fenceTake m)
  ++ readyIf ((s.port m).sendChoice != .nothing) (.sendEvent m)
  ++ readyIf (decide (0 < s.flushReports[m])) (.flushReport m)
  ++ allTargets.flatMap fun t =>
      readyIf (decide (0 < s.announcements[m][t])) (.targetDownAnnouncement m t)

/-- The Plane Controller's timer is due. -/
def State.planeTimerDue (s : State) : List Instr :=
  match s.planeState with
  | .editing _ t => readyIf (t.due s.now) .leaseTimerExpiry
  | .holding _ t => readyIf (t.due s.now) .drainLimitExpiry
  | .steady => []
  | .draining => []

/-- Whether an absolute time that may be absent has been reached (R193). -/
def reached (t : Option Nat) (now : Nat) : Bool :=
  match t with
  | none => false
  | some t => decide (t ≤ now)

/-- The timers of ORT entry `i` that are due. -/
def State.entryDue (s : State) (i : OrtIndex) : List Instr :=
  match (s.entry i).use with
  | none => []
  | some u =>
    readyIf (reached u.phase.deadline? s.now) (.deadlineExpiry i)
    ++ readyIf (reached u.phase.backoffEnd? s.now) (.backoffEnd i)
    ++ readyIf (reached u.phase.lapseEnd? s.now) (.lapseEnd i)

/-- Every timer expiry that is due. -/
def State.expiriesDue (s : State) : List Instr :=
  s.planeTimerDue ++ ortIndices.flatMap s.entryDue
  ++ allMasters.flatMap fun m => readyIf (s.port m).stallDue (.stallExpiry m)

/-- Every event of the part that is ready and is no timer expiry. -/
def State.eventsReady (s : State) : List Instr :=
  allMasters.flatMap s.masterReady ++ s.controlReady
  ++ ([0, 1] : List PlaneId).flatMap (fun p =>
      readyIf (decide (0 < s.decrements[p])) (.planeCountDecrement p))
  ++ allTargets.flatMap (fun t => readyIf (s.arbitrate t).isSome (.grantEvent t))

/-- One microsecond passes (R193). -/
def State.tick (s : State) : State := s.passTime 1

/-- What a step on an empty queue may do: take a ready event, or, while no timer is due, let a microsecond
pass (`none`). -/
def State.idleChoices (s : State) : List (Option Instr) :=
  (if s.expiriesDue.isEmpty then [none] else s.expiriesDue.map some) ++ s.eventsReady.map some

/-- One of the choices: the only one, or one that the free value picks (log 3). -/
def pickChoice (k : Nat) : List (Option Instr) → Option Instr
  | [] => none
  | [c] => c
  | c :: cs => (c :: cs).getD (Config.freeChoice k % (c :: cs).length) c

/-- A step on an empty queue (log 3); with PWRON_N low nothing happens (R193). -/
def idleStep (s : State) : Host.Outcome State Fault Refusal :=
  if s.pwronN then
    let t := { s with choices := s.choices + 1 }
    match pickChoice s.choices s.idleChoices with
    | none => .next t.tick
    | some c => exec c t
  else .next s

end Sys2Proof.Machine
end

