-- ==== Sys2Proof/Safety.lean ====
section
/-! DEFINITION. What counts as a sound state, in the terms claims use: the laws the spec states of every
state the part can reach. -/

namespace Sys2Proof

/-! ## Commands by what they carry -/

/-- The data request packet a master link command carries, with its master (R49). -/
def Instr.dataPacket? : Instr → Option (Master × Machine.DataPacket)
  | .read m tag len addr => some (m, .read tag len addr)
  | .write m tag len addr data =>
    if writeDataFits len data then some (m, .write tag len addr data) else none
  | .fence m tag => some (m, .fence tag)
  | _ => none

/-- The master port a packet or link event of chapter 9 arrives at. -/
def Instr.masterPort? : Instr → Option Master
  | .read m _ _ _ => some m
  | .write m _ _ _ _ => some m
  | .fence m _ => some m
  | .control m _ _ _ => some m
  | .linkUp m _ => some m
  | .credit m _ => some m
  | .linkReset m => some m
  | .masterLinkLost m => some m
  | .malformedMasterFrame m _ => some m
  | _ => none

/-- The catalogue code of a control operation's command (11.1). -/
def Instr.operationCode? : Instr → Option Byte
  | .getWindow => some 0x01
  | .probe => some 0x02
  | .getPlaneStatus => some 0x03
  | .getMasterStatus => some 0x04
  | .getTargetStatus => some 0x05
  | .getSettings => some 0x06
  | .claimEdit => some 0x07
  | .releaseEdit => some 0x08
  | .putWindow => some 0x09
  | .revertStaged => some 0x0A
  | .requestSwitch => some 0x0B
  | .cancelSwitch => some 0x0C
  | .setLeasePeriod => some 0x0D
  | .setMasterLimits => some 0x0E
  | .setDeadlines => some 0x0F
  | .clearQuarantine => some 0x10
  | .resetTarget => some 0x11
  | _ => none

end Sys2Proof

namespace Sys2Proof.Machine

/-! ## Laws of one master port -/

/-- The ingress credit law of R50: packets plus outstanding plus owed credits are 8 for data and 2 for
control while the port is ACTIVE or QUARANTINED; a port not ACTIVE has empty queues, and an OFFLINE port
no credits (R70, R71). -/
def MasterPort.IngressLaw (p : MasterPort) : Prop :=
  (p.state = .offline →
    p.ingress.dataOutstanding = 0 ∧ p.ingress.dataOwed = 0 ∧
    p.ingress.controlOutstanding = 0 ∧ p.ingress.controlOwed = 0) ∧
  (p.state ≠ .offline →
    p.ingress.dataQueue.length + p.ingress.dataOutstanding + p.ingress.dataOwed = 8 ∧
    p.ingress.controlQueue.length + p.ingress.controlOutstanding + p.ingress.controlOwed = 2) ∧
  (p.state ≠ .active → p.ingress.dataQueue = [] ∧ p.ingress.controlQueue = [])

/-- The completion slot law of R135: RESERVED plus FILLED slots never exceed 16, and a master not ACTIVE
has none. -/
def MasterPort.SlotLaw (p : MasterPort) : Prop :=
  p.resp.slotsInUse ≤ 16 ∧ (p.state ≠ .active → p.resp.reserved = [] ∧ p.resp.filled = [])

/-- Whether a notice record is OVERFLOW. -/
def Notice.isOverflow : Notice → Bool
  | .overflow _ => true
  | _ => false

/-- The notice queue law of R139: at most 8 records, at most one of them OVERFLOW, and it is the youngest;
the eighth place is kept for it. -/
def NoticeQueueLaw (q : List Notice) : Prop :=
  q.length ≤ 8 ∧ (∀ n ∈ q.dropLast, n.isOverflow = false) ∧
    (q.length = 8 → ∃ n, q.getLast? = some (.overflow n))

/-- The notice law of a port: R139, and a port not ACTIVE keeps no notice (R140). -/
def MasterPort.NoticeLaw (p : MasterPort) : Prop :=
  NoticeQueueLaw p.resp.notices ∧ (p.state ≠ .active → p.resp.notices = [])

/-- The response credit law of R141: the held count lies in 0 to the advertised count, which is 1 to 16
while the port is ACTIVE and 0 otherwise. -/
def MasterPort.ResponseCreditLaw (p : MasterPort) : Prop :=
  p.resp.credits ≤ p.resp.advertised ∧ p.resp.advertised ≤ 16 ∧
    (p.state = .active → 1 ≤ p.resp.advertised) ∧ (p.state ≠ .active → p.resp.advertised = 0)

/-! ## Laws of one target port -/

/-- One credit class obeys R122: held plus in use is the advertised count. -/
def Credits.Balanced (c : Credits) : Prop := c.held + c.inUse = c.advertised ∧ c.advertised ≤ 32

/-- The target credit law of R122: balanced in UP, no credits otherwise. -/
def TargetPort.CreditLaw (p : TargetPort) : Prop :=
  p.posted.Balanced ∧ p.request.Balanced ∧
    (p.state ≠ .up → p.posted = Credits.zero ∧ p.request = Credits.zero)

/-! ## Laws of the whole state -/

/-- Every master port obeys the ingress credit law. -/
def State.IngressLaw (s : State) : Prop := ∀ m, (s.port m).IngressLaw

/-- Every completion queue obeys the slot law. -/
def State.SlotLaw (s : State) : Prop := ∀ m, (s.port m).SlotLaw

/-- Every notice queue obeys the notice law. -/
def State.NoticeLaw (s : State) : Prop := ∀ m, (s.port m).NoticeLaw

/-- Every port obeys the response credit law. -/
def State.ResponseCreditLaw (s : State) : Prop := ∀ m, (s.port m).ResponseCreditLaw

/-- Every target port obeys the credit law. -/
def State.TargetCreditLaw (s : State) : Prop := ∀ t, (s.target t).CreditLaw

/-- No two enabled entries of a plane overlap (R13). -/
def NoOverlap (p : Plane) : Prop := ∀ i j : WindowIndex, i ≠ j → p[i].overlaps p[j] = false

/-- The overlap law of R13: the live plane holds no two overlapping enabled entries. While a switch is
held, the staged plane has passed the same validation and is fixed (R30, R33). -/
def State.OverlapLaw (s : State) : Prop :=
  NoOverlap s.planes[s.live] ∧ (s.planeState.isHolding = true → NoOverlap s.planes[s.other])

/-- The holder of the edit lease is an admin master (R23). -/
def State.HolderLaw (s : State) : Prop := ∀ m, s.planeState.holder = some m → s.isAdmin m = true

/-- The settings lie in their ranges (R177). -/
def State.SettingsLaw (s : State) : Prop :=
  (1 ≤ s.control.leasePeriod ∧ s.control.leasePeriod ≤ 1000) ∧
  (∀ d : DeadlineClass, 10 ≤ s.classValue d ∧ s.classValue d ≤ 1000000) ∧
  (∀ m, (1 ≤ (s.limits m).quota ∧ (s.limits m).quota ≤ 64) ∧
    (1 ≤ (s.limits m).weight ∧ (s.limits m).weight ≤ 8) ∧
    (1 ≤ (s.limits m).stall ∧ (s.limits m).stall ≤ 250))

/-- Whether the ORT entry at `i` is in WAITING, ISSUED or BACKOFF and names plane `p` (R39). -/
def State.namesPlane (s : State) (p : PlaneId) (i : OrtIndex) : Bool :=
  match (s.entry i).use with
  | none => false
  | some u => u.phase.counted && u.plane == p

/-- Whether the ORT entry at `i` is not FREE and belongs to master `m` (R91). -/
def State.heldBy (s : State) (m : Master) (i : OrtIndex) : Bool :=
  match (s.entry i).use with
  | none => false
  | some u => u.master == m

/-- The Data Pool blocks the ORT entry at `i` holds (R92). -/
def State.blocksAt (s : State) (i : OrtIndex) : Nat :=
  match (s.entry i).use with
  | none => 0
  | some u => u.blocks

/-- A routing a head holds names the plane that was live under its generation (R16). -/
def State.RoutingLaw (s : State) : Prop :=
  ∀ m r k, (s.port m).ingress.headPhase = .routed r k → r.plane = livePlane r.generation

/-- The count law of R39: each plane's count is the number of entries in WAITING, ISSUED or BACKOFF that
name it plus the decrements sent and not yet taken, and the plane that is not live has count 0 whenever
the Plane Controller is not DRAINING. -/
def State.CountLaw (s : State) : Prop :=
  (∀ p : PlaneId, s.refCounts[p] = ortIndices.countP (s.namesPlane p) + s.decrements[p]) ∧
    (s.planeState ≠ .draining → s.refCounts[s.other] = 0)

/-- The held count law of R91. -/
def State.HeldLaw (s : State) : Prop := ∀ m : Master, s.held[m] = ortIndices.countP (s.heldBy m)

/-- The Data Pool law of R92: free blocks plus the blocks ORT entries hold number 256, and only entries in
WAITING, ISSUED or BACKOFF hold blocks. -/
def State.PoolLaw (s : State) : Prop :=
  s.freeBlocks + (ortIndices.map s.blocksAt).sum = poolBlocks ∧
    ∀ i u, (s.entry i).use = some u → u.phase.counted = false → u.blocks = 0

/-- The lane law of R96 and R100: an entry in WAITING or BACKOFF is in the lane of its target and master;
every index of a lane is such an entry of that target and master; no lane holds an index twice or more
than 16 indices. -/
def State.LaneLaw (s : State) : Prop :=
  (∀ i u, (s.entry i).use = some u → u.phase.inLane = true → i ∈ s.lane u.target u.master) ∧
  (∀ t m i, i ∈ s.lane t m →
    ∃ u, (s.entry i).use = some u ∧ u.phase.inLane = true ∧ u.target = t ∧ u.master = m) ∧
  (∀ t m, (s.lane t m).Nodup ∧ (s.lane t m).length ≤ 16)

/-- The promises a completion queue has made to its master's work. An ORT entry with a response owed is a
READ or WRITE_NP in WAITING, ISSUED or BACKOFF, its master's port is ACTIVE and its slot is RESERVED (R56,
R65, R89, R169); a head that holds a slot and an occupied fence have theirs RESERVED (R58, R152). -/
def State.PromiseLaw (s : State) : Prop :=
  (∀ i u, (s.entry i).use = some u → u.responseOwed = true →
    u.kind ≠ .writeP ∧ u.phase.counted = true ∧ (s.port u.master).state = .active ∧
    .ort i ∈ (s.port u.master).resp.reserved) ∧
  (∀ m, (s.port m).ingress.headSlot = true → .head ∈ (s.port m).resp.reserved) ∧
  (∀ m, (s.port m).fence.slot ≠ none → .fence ∈ (s.port m).resp.reserved)

/-- The READ or WRITE at the front of the data ingress queue of a port, whatever the port's state. -/
def Ingress.frontRequest (g : Ingress) : Option Request := g.dataQueue.head?.bind DataPacket.request?

/-- The tag law of R56: no two ORT entries with a response owed to the same master carry the same tag. A
head routed as non-posted passed the tag check and keeps passing it, and an empty data queue has no routed
head (section 3.2). -/
def State.TagLaw (s : State) : Prop :=
  (∀ m tag i j, (s.entry i).owes m tag = true → (s.entry j).owes m tag = true → i = j) ∧
  (∀ m q r k, (s.port m).ingress.frontRequest = some q →
    (s.port m).ingress.headPhase = .routed r k → k ≠ .writeP → s.tagFree m q.tag = true) ∧
  (∀ m, (s.port m).ingress.dataQueue = [] → (s.port m).ingress.headPhase = .unrouted)

/-- The head law of R54: a READ or WRITE head waits UNROUTED only in HOLDING, and only with its length in
range. -/
def State.HeadLaw (s : State) : Prop :=
  ∀ m q, s.headRequest m = some q → (s.port m).ingress.headPhase = .unrouted →
    s.planeState.phase = .holding ∧ 1 ≤ q.length ∧ q.length ≤ 256

/-- The saturating counts lie in 0 to 65,535 (R51, R115, R152). -/
def State.SaturationLaw (s : State) : Prop :=
  (∀ m, (s.port m).faults ≤ 65535 ∧ (s.port m).fence.postedFailures ≤ 65535 ∧
    ∀ f, (s.port m).fence.slot = some f → f.failures ≤ 65535) ∧
  (∀ t, (s.target t).stale ≤ 65535 ∧ (s.target t).creditFaults ≤ 65535)

/-! ## The bytes the part sends (11.1 to 11.4) -/

/-- A number of `k` bytes, little-endian (11.1). -/
def littleEndian (k n : Nat) : List Byte := List.ofFn fun j : Fin k => BitVec.ofNat 8 (n / 256 ^ j.val)

/-- The codes of section 11.1. -/
def EncodingsAreThoseOf11_1 : Prop :=
  ([Status.ok, .badLength, .noWindow, .span, .noAccess, .targetDown, .tagInUse, .timeout,
      .retryExhausted, .targetError, .targetLost, .targetReject].map Status.code =
    [0, 1, 2, 3, 4, 5, 6, 7, 8, 9, 10, 11]) ∧
  ([ResultCode.ok, .unknownOperation, .notAdmin, .noLease, .leaseHeld, .busy, .draining, .invalidPlane,
      .badArgument, .notHolding, .notQuarantined].map ResultCode.code =
    [0, 1, 2, 3, 4, 5, 6, 7, 8, 9, 10]) ∧
  ([PlanePhase.steady, .editing, .holding, .draining].map PlanePhase.code = [0, 1, 2, 3]) ∧
  ([PortState.offline, .active, .quarantined].map PortState.code = [0, 1, 2]) ∧
  ([TargetState.absent, .down, .training, .up].map TargetState.code = [0, 1, 2, 3]) ∧
  (∀ a b, [OrtPhase.waiting a, .issued a, .backoff a b, .lapsed a].map OrtPhase.code = [1, 2, 3, 4]) ∧
  ([Kind.read, .writeNp, .writeP].map Kind.code = [0, 1, 2]) ∧
  ([OrderClass.posted, .strict, .relaxed].map OrderClass.code = [0, 1, 2]) ∧
  ([Access.none, .read, .readWrite].map Access.code = [0, 1, 2]) ∧
  ([Role.live, .staged, .old].map Role.code = [0, 1, 2]) ∧
  ([ProbeOutcome.hit, .noWindow, .noAccess].map ProbeOutcome.code = [0, 1, 2]) ∧
  ([PutReason.index, .size, .field, .baseAlign, .xlateAlign, .targetAbsent].map PutReason.code =
    [0, 1, 2, 3, 4, 5]) ∧
  ([SwitchMode.immediate, .quiesced].map SwitchMode.code = [0, 1])

/-- The notice frames of section 11.2, 16 bytes each. -/
def NoticesAreLaidOut : Prop :=
  (∀ g p, (Notice.planeFlipped g p).bytes =
    [0x90, 1] ++ littleEndian 4 g.toNat ++ [BitVec.ofNat 8 p.val] ++ List.replicate 9 0) ∧
  (∀ g, (Notice.planeSettled g).bytes = [0x90, 2] ++ littleEndian 4 g.toNat ++ List.replicate 10 0) ∧
  (∀ reason g, (Notice.switchAbandoned reason g).bytes =
    [0x90, 3, if reason = .drainLimit then 0 else 1] ++ littleEndian 4 g.toNat ++ List.replicate 9 0) ∧
  (∀ g, (Notice.leaseExpired g).bytes = [0x90, 4] ++ littleEndian 4 g.toNat ++ List.replicate 10 0) ∧
  (∀ tag t a len reason, (Notice.postedFail tag t a len reason).bytes =
    [0x90, 5, BitVec.ofNat 8 tag.toNat, BitVec.ofNat 8 t.val, reason.code, 0] ++ littleEndian 2 len ++
      littleEndian 6 a.toNat ++ [(0 : Byte), 0]) ∧
  (∀ m, (Notice.masterQuarantined m).bytes =
    [0x90, 6, BitVec.ofNat 8 m.val] ++ List.replicate 13 0) ∧
  (∀ t cause left, left ≠ .absent → (Notice.targetDown t cause left).bytes =
    [0x90, 7, BitVec.ofNat 8 t.val, if cause = .linkLost then 0 else 1,
      if left = .up then 0 else if left = .training then 1 else 2] ++ List.replicate 11 0) ∧
  (∀ t p r, (Notice.targetUp t p r).bytes =
    [0x90, 8, BitVec.ofNat 8 t.val, BitVec.ofNat 8 p, BitVec.ofNat 8 r] ++ List.replicate 11 0) ∧
  (∀ n, (Notice.overflow n).bytes = [0x90, 9] ++ littleEndian 2 n ++ List.replicate 12 0)

/-- The response frames of section 11.2. -/
def ResponsesAreLaidOut : Prop :=
  (∀ tag st data, (Response.readDone tag st data).bytes =
    [0x81, BitVec.ofNat 8 tag.toNat, st.code, 0] ++ littleEndian 2 data.length ++ data) ∧
  (∀ tag st, (Response.writeDone tag st).bytes = [0x82, BitVec.ofNat 8 tag.toNat, st.code]) ∧
  (∀ tag, (Response.writeAck tag).bytes = [0x83, BitVec.ofNat 8 tag.toNat]) ∧
  (∀ tag n, (Response.fenceDone tag n).bytes = [0x84, BitVec.ofNat 8 tag.toNat] ++ littleEndian 2 n) ∧
  (∀ tag op code record, (Response.controlDone tag op code record).bytes =
    [0x85, BitVec.ofNat 8 tag.toNat, op, code.code] ++ littleEndian 2 record.bytes.length ++
      record.bytes)

/-- The record of a window entry, 18 bytes (11.4). -/
def Window.laidOut (w : Window) : List Byte :=
  [(if w.enabled then 1 else 0) + (if w.translation = none then 0 else 2), BitVec.ofNat 8 w.sizeExp,
    BitVec.ofNat 8 w.target.val, w.cls.code,
    BitVec.ofNat 8 (w.access[0].code + 4 * w.access[1].code + 16 * w.access[2].code +
      64 * w.access[3].code),
    BitVec.ofNat 8 (w.deadlineClass.val + 16 * w.retryBudget.val)] ++
  littleEndian 6 w.base.toNat ++ littleEndian 6 ((w.translation.getD 0).toNat)

/-- One item of the entry list of GET_MASTER_STATUS, 24 bytes (11.4). -/
def EntryItem.laidOut (e : EntryItem) : List Byte :=
  [BitVec.ofNat 8 e.index.val, BitVec.ofNat 8 e.reuse.toNat, e.entry.phase.code, e.entry.kind.code,
    BitVec.ofNat 8 e.entry.tag.toNat, BitVec.ofNat 8 e.entry.target.val, BitVec.ofNat 8 e.entry.plane.val,
    BitVec.ofNat 8 e.entry.window.val] ++ littleEndian 2 e.entry.length ++
  [BitVec.ofNat 8 e.entry.retries,
    (if e.entry.responseOwed then 1 else 0) + (if e.entry.failureReporting then 2 else 0)] ++
  littleEndian 4 e.deadlineLeft ++ littleEndian 4 e.backoffLeft ++ littleEndian 4 e.lapseLeft

/-- The limits of one master in GET_SETTINGS, 4 bytes (11.4). -/
def Limits.laidOut (l : Limits) : List Byte :=
  [BitVec.ofNat 8 l.quota, BitVec.ofNat 8 l.weight] ++ littleEndian 2 l.stall

/-- The holder of the lease in a record: its number, or FFh (11.1; in a refusal log 9). -/
def holderByte : Option Master → Byte
  | none => 0xFF
  | some m => BitVec.ofNat 8 m.val

/-- The records of the status operations, GET_WINDOW and PROBE that section 11.4 lays out. -/
def StatusRecordsAreLaidOut : Prop :=
  (∀ r, (ResultRecord.planeStatus r).bytes =
    [r.phase.code, BitVec.ofNat 8 r.live.val, holderByte r.holder, 0] ++
    littleEndian 4 r.generation.toNat ++ [BitVec.ofNat 8 r.count0, BitVec.ofNat 8 r.count1, 0, 0] ++
    littleEndian 4 r.leaseLeft ++ littleEndian 4 r.drainLeft) ∧
  (∀ r, (ResultRecord.targetStatus r).bytes =
    [BitVec.ofNat 8 r.port.val, r.state.code,
      BitVec.ofNat 8 r.posted.advertised, BitVec.ofNat 8 r.posted.held, BitVec.ofNat 8 r.posted.inUse,
      BitVec.ofNat 8 r.request.advertised, BitVec.ofNat 8 r.request.held,
      BitVec.ofNat 8 r.request.inUse] ++ littleEndian 2 r.stale ++ littleEndian 2 r.creditFaults ++
    [BitVec.ofNat 8 r.lanes[0], BitVec.ofNat 8 r.lanes[1], BitVec.ofNat 8 r.lanes[2],
      BitVec.ofNat 8 r.lanes[3], BitVec.ofNat 8 r.issued, BitVec.ofNat 8 r.backoff,
      BitVec.ofNat 8 r.lapsed, 0]) ∧
  (∀ r, (ResultRecord.settings r).bytes =
    littleEndian 2 r.leasePeriod ++ [(0 : Byte), 0] ++ littleEndian 4 r.deadlines[0] ++
    littleEndian 4 r.deadlines[1] ++ littleEndian 4 r.deadlines[2] ++ littleEndian 4 r.deadlines[3] ++
    r.limits[0].laidOut ++ r.limits[1].laidOut ++ r.limits[2].laidOut ++ r.limits[3].laidOut ++
    [BitVec.ofNat 8 r.straps.mpresent.toNat, BitVec.ofNat 8 r.straps.tpresent.toNat,
      BitVec.ofNat 8 r.straps.admin.toNat, BitVec.ofNat 8 r.straps.bootsz.toNat]) ∧
  (∀ r, (ResultRecord.masterStatus r).bytes =
    [BitVec.ofNat 8 r.master.val, (if r.present then 1 else 0) + (if r.admin then 2 else 0),
      r.state.code, BitVec.ofNat 8 r.limits.quota, BitVec.ofNat 8 r.limits.weight, 0] ++
    littleEndian 2 r.limits.stall ++ littleEndian 2 r.faults ++
    [BitVec.ofNat 8 r.held, BitVec.ofNat 8 r.dataPackets, BitVec.ofNat 8 r.dataOutstanding,
      BitVec.ofNat 8 r.dataOwed, BitVec.ofNat 8 r.controlPackets, BitVec.ofNat 8 r.controlOutstanding,
      BitVec.ofNat 8 r.controlOwed, BitVec.ofNat 8 r.slotsInUse, BitVec.ofNat 8 r.noticesHeld,
      BitVec.ofNat 8 r.advertised, BitVec.ofNat 8 r.credits, if r.fenceOccupied then 1 else 0,
      BitVec.ofNat 8 r.fenceMembers, 0] ++
    littleEndian 2 r.fenceFailures ++ littleEndian 2 r.postedFailures ++
    [BitVec.ofNat 8 r.items.length, 0, 0, 0] ++ (r.items.map EntryItem.laidOut).flatten) ∧
  (∀ r, (ResultRecord.window r).bytes =
    [BitVec.ofNat 8 r.plane.val, r.role.code, r.phase.code, BitVec.ofNat 8 r.index.val] ++
    littleEndian 4 r.generation.toNat ++ r.entry.laidOut) ∧
  (∀ r, (ResultRecord.probed r).bytes =
    [r.outcome.code, BitVec.ofNat 8 r.plane.val, BitVec.ofNat 8 r.window.val,
      BitVec.ofNat 8 r.target.val] ++ littleEndian 4 r.generation.toNat ++
    littleEndian 6 r.address.toNat ++
    [r.cls.code, BitVec.ofNat 8 r.deadlineClass.val, BitVec.ofNat 8 r.retryBudget.val, 0])

/-- The records whose fields their rules list, packed in that order at the widths of 11.1 (R20, R30, R47,
R181, R186 to R189, R191, 11.4). The model's readings: logs 6 and 7 (free values), 8, 9 and 17. -/
def ListedRecordsArePacked : Prop :=
  ResultRecord.empty.bytes = [] ∧
  (∀ op, (ResultRecord.unknownOperation op).bytes = [op]) ∧
  ResultRecord.form.bytes = [6] ∧
  (∀ i, (ResultRecord.argument i).bytes = [BitVec.ofNat 8 (Config.firstArgumentPosition + i)]) ∧
  (∀ reason index, (ResultRecord.putCheck reason index).bytes = [reason.code, index]) ∧
  (∀ ph g h, (ResultRecord.planeRefusal ph g h).bytes =
    [ph.code] ++ littleEndian 4 g.toNat ++ [holderByte h]) ∧
  (∀ h left, (ResultRecord.leaseHeld h left).bytes = [BitVec.ofNat 8 h.val] ++ littleEndian 4 left) ∧
  (∀ h ms g p, (ResultRecord.claimed h ms g p).bytes =
    [BitVec.ofNat 8 h.val] ++ littleEndian 2 ms ++ littleEndian 4 g.toNat ++ [BitVec.ofNat 8 p.val]) ∧
  (∀ g, (ResultRecord.released g).bytes = littleEndian 4 g.toNat) ∧
  (∀ p g, (ResultRecord.windowPut p g).bytes = [BitVec.ofNat 8 p.val] ++ littleEndian 4 g.toNat) ∧
  (∀ g, (ResultRecord.reverted g).bytes = littleEndian 4 g.toNat) ∧
  (∀ mode ph g p settled limit, (ResultRecord.switched mode ph g p settled limit).bytes =
    [mode.code, ph.code] ++ littleEndian 4 g.toNat ++
    [BitVec.ofNat 8 p.val, Config.settledByte settled] ++
    (match limit with
      | none => []
      | some ms => littleEndian 2 ms)) ∧
  (∀ i j, (ResultRecord.invalidPlane i j).bytes = [BitVec.ofNat 8 i.val, BitVec.ofNat 8 j.val]) ∧
  (∀ g ms, (ResultRecord.cancelled g ms).bytes =
    [PlanePhase.editing.code] ++ littleEndian 4 g.toNat ++ littleEndian 2 ms) ∧
  (∀ a b, (ResultRecord.periodSet a b).bytes = littleEndian 2 a ++ littleEndian 2 b) ∧
  (∀ a b, (ResultRecord.limitsSet a b).bytes =
    [BitVec.ofNat 8 a.quota, BitVec.ofNat 8 b.quota, BitVec.ofNat 8 a.weight, BitVec.ofNat 8 b.weight] ++
    littleEndian 2 a.stall ++ littleEndian 2 b.stall) ∧
  (∀ a b, (ResultRecord.deadlinesSet a b).bytes =
    littleEndian 4 a[0] ++ littleEndian 4 b[0] ++ littleEndian 4 a[1] ++ littleEndian 4 b[1] ++
    littleEndian 4 a[2] ++ littleEndian 4 b[2] ++ littleEndian 4 a[3] ++ littleEndian 4 b[3]) ∧
  (∀ m, (ResultRecord.quarantineCleared m).bytes = [BitVec.ofNat 8 m.val, 0]) ∧
  (∀ t left, (ResultRecord.targetReset t left).bytes = [BitVec.ofNat 8 t.val, left.code])

/-! ## Words the statements share -/

/-- An event can be taken from master link `m`: the part is powered and the port is present (R164, R193). -/
def State.HearsMaster (s : State) (m : Master) : Prop := s.pwronN = true ∧ s.masterPresent m = true

/-- Operation `op` is in execution under a catalogue code, with `n` argument bytes, in a powered part
(R177, R179). -/
def State.Executing (s : State) (op : Operation) (code : Byte) (n : Nat) : Prop :=
  s.pwronN = true ∧ s.control.op = some op ∧ op.code = code ∧ op.args.length = n

/-- A READ or WRITE of master `m` stands at its data head, in a powered part (R53). -/
def State.AtHead (s : State) (m : Master) (q : Request) : Prop :=
  s.pwronN = true ∧ s.headRequest m = some q

/-- The protocol fault of port `m`: its fault count rises by one and nothing else changes (R51). -/
def State.oneMoreFault (s : State) (m : Master) : State :=
  s.modPort m fun p => { p with faults := min (p.faults + 1) 65535 }

/-- The argument bytes of each catalogue code (sections 10.3 and 11.4). -/
def argumentBytes (code : Byte) : Nat :=
  match code.toNat with
  | 0x01 => 2
  | 0x02 => 7
  | 0x04 => 1
  | 0x05 => 1
  | 0x09 => 19
  | 0x0B => 3
  | 0x0D => 2
  | 0x0E => 5
  | 0x0F => 16
  | 0x10 => 1
  | 0x11 => 1
  | _ => 0

/-- What the port flush of master `m` leaves of the fields of an ORT entry (R94). -/
def State.afterFlush (s : State) (m : Master) (u : OrtUse) : Option OrtUse :=
  if u.master ≠ m then some u
  else if u.kind = .writeP then
    some (if u.phase.counted then { u with failureReporting := false } else u)
  else if !u.responseOwed then some u
  else
    match u.phase with
    | .waiting _ => none
    | .backoff _ _ => none
    | .issued _ =>
      some { u with
        phase := .lapsed (s.now + s.classValue (s.window u.plane u.window).deadlineClass)
        blocks := 0, data := [], responseOwed := false }
    | .lapsed _ => some u

/-- How many ORT entries that are not FREE satisfy `f`. -/
def State.entriesWhere (s : State) (f : OrtUse → Bool) : Nat :=
  ortIndices.countP fun i =>
    match (s.entry i).use with
    | none => false
    | some u => f u

/-- The Data Pool blocks of the ORT entries that satisfy `f`, summed. -/
def State.blocksWhere (s : State) (f : OrtUse → Bool) : Nat :=
  (ortIndices.map fun i =>
    match (s.entry i).use with
    | none => 0
    | some u => if f u then u.blocks else 0).sum

/-- An entry that the port flush of master `m` counts off its plane, with its blocks returned: a READ or
WRITE_NP with its response owed, in WAITING, BACKOFF or ISSUED (R91, R92, R94). -/
def OrtUse.countedOff (u : OrtUse) (m : Master) : Bool :=
  u.master == m && u.kind != .writeP && u.responseOwed && u.phase.counted

/-- What the port flush of master `m` does between `s` and `t` to the ORT, the lanes, the Data Pool, the
held counts and the decrements on their way to the Plane Controller (R75, R84, R91, R92, R94). -/
structure State.Flushed (s t : State) (m : Master) : Prop where
  entries : ∀ i, t.entry i = { s.entry i with use := (s.entry i).use.bind (s.afterFlush m) }
  lanes : ∀ a b, t.lane a b = (s.lane a b).filter fun i => (t.entry i).use.isSome
  blocks : t.freeBlocks = s.freeBlocks + s.blocksWhere fun u => u.countedOff m
  decrements : ∀ p : PlaneId, t.decrements[p] =
    s.decrements[p] + s.entriesWhere fun u => u.countedOff m && u.plane == p
  held : ∀ a : Master, t.held[a] =
    s.held[a] - if a = m then s.entriesWhere fun u => u.countedOff m && u.phase.inLane else 0
  reported : t.flushReports = s.flushReports.set m (s.flushReports[m] + 1)
  map : t.planes = s.planes ∧ t.generation = s.generation ∧ t.planeState = s.planeState ∧
    t.refCounts = s.refCounts
  rest : t.targets = s.targets ∧ t.control = s.control ∧ t.announcements = s.announcements ∧
    t.masterOut = s.masterOut ∧ t.targetOut = s.targetOut ∧ t.straps = s.straps ∧
    t.pwronN = s.pwronN ∧ t.choices = s.choices ∧ t.pending = s.pending

/-- The POSTED_FAIL notices that the loss of target `t` hands to master `m`, in index order (R90, R95). -/
def State.lossNotices (s : State) (t : Target) (m : Master) : List Notice :=
  ortIndices.filterMap fun i =>
    match (s.entry i).use with
    | none => none
    | some u =>
      if u.target = t ∧ u.master = m ∧ u.phase.counted ∧ u.kind = .writeP ∧ u.failureReporting then
        some (.postedFail u.tag u.target u.address u.length .targetLost)
      else none

/-- The notice queue after a run of notices handed to a port in one event (R139, R140). -/
def MasterPort.noticesAfter (p : MasterPort) (l : List Notice) : List Notice :=
  if p.state = .active then l.foldl pushNotice p.resp.notices else p.resp.notices

/-- The check of R20 that the index and window entry record of a PUT_WINDOW fail first, if any, read from
their bytes (R20, R191, 11.4). -/
def State.putFailure (s : State) (index : Byte) (r : List Byte) : Option PutReason :=
  let enabled := (r.getD 0 0)[0]
  let k := (r.getD 1 0).toNat
  if 32 ≤ index.toNat then some .index
  else if ¬((12 ≤ k ∧ k ≤ 40) ∨ (enabled = false ∧ k = 0)) then some .size
  else if 5 < (r.getD 2 0).toNat ∨ 2 < (r.getD 3 0).toNat ∨
      ∃ m : Fin 4, (r.getD 4 0).toNat / 4 ^ m.val % 4 = 3 then some .field
  else if enabled = false then none
  else if leField r 6 6 % 2 ^ k ≠ 0 then some .baseAlign
  else if (r.getD 0 0)[1] = true ∧ leField r 12 6 % 2 ^ k ≠ 0 then some .xlateAlign
  else if s.straps.tpresent.getLsbD (r.getD 2 0).toNat = false then some .targetAbsent
  else none

/-- The window entry that a record of 18 bytes with every field in range spells (11.4). -/
def Window.Spells (w : Window) (r : List Byte) : Prop :=
  w.enabled = (r.getD 0 0)[0] ∧ w.sizeExp = (r.getD 1 0).toNat ∧
  w.target.val = (r.getD 2 0).toNat ∧
  (w.cls = .posted ↔ (r.getD 3 0).toNat = 0) ∧ (w.cls = .strict ↔ (r.getD 3 0).toNat = 1) ∧
  (∀ m : Fin 4, (w.access[m] = .none ↔ (r.getD 4 0).toNat / 4 ^ m.val % 4 = 0) ∧
    (w.access[m] = .read ↔ (r.getD 4 0).toNat / 4 ^ m.val % 4 = 1)) ∧
  w.deadlineClass.val = (r.getD 5 0).toNat % 4 ∧ w.retryBudget.val = (r.getD 5 0).toNat / 16 ∧
  w.base.toNat = leField r 6 6 ∧
  ((r.getD 0 0)[1] = false → w.translation = none) ∧
  ((r.getD 0 0)[1] = true → ∃ x, w.translation = some x ∧ x.toNat = leField r 12 6)

/-- What a port takes in the event of a flip that reconciles (`settled`) or not: PLANE_FLIPPED, then, for
an admin master, PLANE_SETTLED, if the port is ACTIVE (R31, R41, R46). -/
def State.flipNotices (s : State) (g : Generation) (settled : Bool) (m : Master) (p : MasterPort) :
    MasterPort :=
  let p := p.notify (.planeFlipped g (livePlane g))
  if settled && s.isAdmin m then p.notify (.planeSettled g) else p

/-- The state after a flip that reconciles in the same event: the next generation, both planes equal to
the plane that was staged, STEADY, and the notices (R31, R35, R41). -/
def State.flippedAndSettled (s : State) : State :=
  ({ s with generation := s.generation + 1, planeState := .steady,
            planes := s.planes.set s.live s.planes[s.other] }).mapPorts
    fun m p => s.flipNotices (s.generation + 1) true m p

/-- The state that command `c` answers. -/
def State.after (s : State) (c : Instr) : State :=
  match exec c s with
  | .next t => t
  | .fault _ => s
  | .refused _ => s

/-- The packet that has become data head of master `m` is routed in the event, if it is a READ or WRITE, as
HEAD_ROUTING routes it (R53, R54). -/
def State.newHeadRouted (s : State) (m : Master) : State := s.after (.headRouting m)

/-- The data head of master `m` has left its queue, and one data credit is owed; the packet behind it has
become head, UNROUTED with no slot, and is routed in the event (R50, R53, R54). -/
def State.headLeft (s : State) (m : Master) : State :=
  State.newHeadRouted
    (s.modIngress m fun g =>
      { g with dataQueue := g.dataQueue.tail, headPhase := .unrouted, headSlot := false,
               dataOwed := g.dataOwed + 1 }) m

/-- The data heads have resumed in the event that left HOLDING: the heads of the masters of `order` are
routed in turn, each as HEAD_ROUTING routes it (R35, R54). The choice counter, the model's own, has
advanced (log 26). -/
def State.resumed (s : State) (order : List Master) : State :=
  order.foldl (fun s m => s.after (.headRouting m)) { s with choices := s.choices + 1 }

/-- Entry `u` at `i`, in WAITING, ISSUED or BACKOFF, retires to FREE and gives back its lane place, its
blocks and its plane reference; its master's held count falls (R75, R91). -/
def State.retired (s : State) (i : OrtIndex) (u : OrtUse) : State :=
  { s with
    ort := s.ort.set i { s.ort[i] with use := none }
    held := s.held.set u.master (s.held[u.master] - 1)
    freeBlocks := s.freeBlocks + u.blocks
    decrements := s.decrements.set u.plane (s.decrements[u.plane] + 1)
    lanes :=
      if u.phase.inLane then
        s.lanes.set u.target
          (s.lanes[u.target].set u.master (s.lanes[u.target][u.master].erase i))
      else s.lanes }

/-- The slot that a READ or WRITE_NP entry at `i` holds is filled with its response (R79, R89). -/
def State.answered (s : State) (i : OrtIndex) (u : OrtUse) (st : Status) (data : List Byte) : State :=
  s.modResp u.master fun r =>
    { r with
      reserved := r.reserved.erase (.ort i)
      filled := r.filled ++
        [if u.kind = .read then .readDone u.tag st data else .writeDone u.tag st] }

/-- The failure of entry `u` at `i` is reported: the response of an entry with a response owed; for a
posted write with failure reporting yes, POSTED_FAIL and then the failed report to the Fence Tracker (R89,
R90). -/
def State.failureReported (s : State) (i : OrtIndex) (u : OrtUse) (st : Status) : State :=
  if u.kind = .writeP then
    if u.failureReporting then
      (s.notify u.master (.postedFail u.tag u.target u.address u.length st)).fenceReport u.master i true
    else s
  else if u.responseOwed then s.answered i u st [] else s

/-- What the loss of target `t` does at the entry at `i` (R95): an entry in WAITING, ISSUED or BACKOFF that
names it retires to FREE and fails with TARGET_LOST, reported as any failure (R89, R90); a LAPSED one is
freed silently. -/
def State.lostAt (t : Target) (s : State) (i : OrtIndex) : State :=
  match (s.entry i).use with
  | none => s
  | some e =>
    if e.target ≠ t then s
    else if e.phase.counted then (s.retired i e).failureReported i e .targetLost
    else
      { s with
        ort := s.ort.set i { s.ort[i] with use := none }
        held := s.held.set e.master (s.held[e.master] - 1) }

/-- Port `t` has left UP between `s` and `u` (R90, R91, R92, R95, R113, R128, R129, R163): all of it in its
order (`whole`), and, read off it, the port's record, the entries and lanes that named it, the blocks,
decrements and held counts, the notices in their order, the responses, the announcements, and what
stays. In `whole`, a head routed because a fence ends reads the ORT at its turn (log 29). -/
structure State.LeftUp (s u : State) (t : Target) (cause : DownCause) : Prop where
  whole : u =
    let down := (({ s with
        targets := s.targets.set t
          { s.targets[t] with state := .down, posted := .zero, request := .zero } }).notifyAll
      (fun _ => true) (.targetDown t cause .up))
    { ortIndices.foldl (State.lostAt t) down with
      announcements := Vector.ofFn fun m : Fin 4 =>
        s.announcements[m].set t (s.announcements[m][t] + 1) }
  record : u.target t = { s.target t with state := .down, posted := .zero, request := .zero }
  others : ∀ a, a ≠ t → u.target a = s.target a
  entries : ∀ i, u.entry i =
    match (s.entry i).use with
    | none => s.entry i
    | some e => if e.target = t then { s.entry i with use := none } else s.entry i
  lanes : ∀ a b, u.lane a b = if a = t then [] else s.lane a b
  blocks : u.freeBlocks = s.freeBlocks + s.blocksWhere fun e => e.target == t && e.phase.counted
  decrements : ∀ p : PlaneId, u.decrements[p] =
    s.decrements[p] + s.entriesWhere fun e => e.target == t && e.phase.counted && e.plane == p
  held : ∀ m : Master, u.held[m] = s.held[m] - s.entriesWhere fun e => e.target == t && e.master == m
  notices : ∀ m, (u.port m).resp.notices =
    (s.port m).noticesAfter (.targetDown t cause .up :: s.lossNotices t m)
  responses : ∀ i e, (s.entry i).use = some e → e.target = t → e.responseOwed = true →
    (if e.kind = .read then .readDone e.tag .targetLost [] else .writeDone e.tag .targetLost) ∈
      (u.port e.master).resp.filled
  announced : ∀ (m : Master) (a : Target), u.announcements[m][a] = s.announcements[m][a] + if a = t then 1 else 0
  ports : ∀ m, (u.port m).state = (s.port m).state ∧ (u.port m).faults = (s.port m).faults ∧
    (u.port m).resp.advertised = (s.port m).resp.advertised ∧
    (u.port m).resp.credits = (s.port m).resp.credits
  map : u.planes = s.planes ∧ u.generation = s.generation ∧ u.planeState = s.planeState ∧
    u.refCounts = s.refCounts
  rest : u.control = s.control ∧ u.now = s.now ∧ u.straps = s.straps ∧
    u.flushReports = s.flushReports ∧ u.masterOut = s.masterOut ∧ u.targetOut = s.targetOut ∧
    u.pwronN = s.pwronN ∧ u.choices = s.choices ∧ u.pending = s.pending

/-- An answer with target tag `tag` that arrives on port `t` is taken by the ISSUED entry `u` at `i`
(R78), in a powered part whose port is UP. -/
def State.Answers (s : State) (t : Target) (tag : Byte) (i : OrtIndex) (u : OrtUse) : Prop :=
  s.pwronN = true ∧ (s.target t).state = .up ∧ (s.entry i).use = some u ∧ u.phase.isIssued = true ∧
  u.target = t ∧ tag = targetTag i (s.entry i).reuse

end Sys2Proof.Machine
end

