-- ==== Sys2Proof/WellFormed.lean ====
section
/-! DEFINITION. When a command stands for an event that its row names: the data of a packet has the
length its own fields give, and a malformed-frame command carries a malformed frame. -/

namespace Sys2Proof

/-- A command is well formed when its operands make the event its row names. The machine gives every
command a meaning, well formed or not (log 18). -/
def Instr.wf : Instr → Bool
  | .write _ _ len _ data => writeDataFits len data
  | .control _ _ _ args => decide (args.length ≤ 255)
  | .tComplete _ _ _ data => decide (data.length ≤ 256)
  | .malformedMasterFrame m frame => decodeMasterFrame m frame == .malformedMasterFrame m frame
  | .malformedTargetFrame t frame => decodeTargetFrame t frame == .malformedTargetFrame t frame
  | .powerOn _ _ _ _
  | .pwronLow
  | .read _ _ _ _
  | .fence _ _
  | .linkUp _ _
  | .credit _ _
  | .linkReset _
  | .masterLinkLost _
  | .headRouting _
  | .slotClaimGrant _
  | .admissionAttempt _
  | .targetDownAnnouncement _ _
  | .fenceTake _
  | .controlTake
  | .getWindow
  | .probe
  | .getPlaneStatus
  | .getMasterStatus
  | .getTargetStatus
  | .getSettings
  | .claimEdit
  | .releaseEdit
  | .putWindow
  | .revertStaged
  | .requestSwitch
  | .cancelSwitch
  | .setLeasePeriod
  | .setMasterLimits
  | .setDeadlines
  | .clearQuarantine
  | .resetTarget
  | .unknownOperation
  | .leaseTimerExpiry
  | .drainLimitExpiry
  | .planeCountDecrement _
  | .flushReport _
  | .grantEvent _
  | .targetLinkDetected _
  | .targetLinkLost _
  | .tReady _ _ _
  | .tCredit _ _ _
  | .tAccept _ _ _
  | .tReject _ _ _
  | .tRetry _ _
  | .deadlineExpiry _
  | .lapseEnd _
  | .backoffEnd _
  | .stallExpiry _
  | .sendEvent _ => true

end Sys2Proof
end

