-- ==== Sys2Proof/Certificates/Slice0/Obligations.lean ====
section
/-! DEFINITION. The statements for the provers: what the commands of the NJ-4260 do, and the laws every
step keeps. -/

section

open Sys2Proof Sys2Proof.Machine

/-! ## The machine -/

/-- A step on a queue with command `c` at its front is exec of `c` on the state with the queue's rest. -/
def Obligations.StepRunsFrontCommand : Prop :=
  ∀ (c : Instr) (rest : List Instr) (s : State),
    step { s with pending := c :: rest } = exec c { s with pending := rest }

/-- On an empty queue a powered part takes a ready event or a due expiry, or, when no timer is due, lets
one microsecond pass; with PWRON_N low nothing happens. The step on an empty queue is the model's choice
(log 3). When time passes the timebase rises by it, and so does every stall timer that runs: of a port that
is ACTIVE with something waiting and no response credit held; every other stall timer keeps its value, and
nothing else changes (R148, R193). -/
def Obligations.EmptyQueueTakesReadyEventOrTicks : Prop :=
  (∀ s : State, s.pending = [] →
    (s.pwronN = false → step s = .next s) ∧
    (s.pwronN = true →
      (∃ c, c ∈ s.expiriesDue ++ s.eventsReady ∧
        step s = exec c { s with choices := s.choices + 1 }) ∨
      (s.expiriesDue = [] ∧
        step s = .next (State.passTime { s with choices := s.choices + 1 } 1)))) ∧
  (∀ (s : State) (d : Nat),
    (∃ ports : Vector MasterPort 4, s.passTime d = { s with now := s.now + d, masters := ports } ∧
      ∀ m : Master, ports[m] =
        { s.masters[m] with resp := { s.masters[m].resp with
            stallElapsed :=
              if s.masters[m].state = .active ∧ s.masters[m].resp.credits = 0 ∧
                  (s.masters[m].resp.notices ≠ [] ∨ s.masters[m].resp.filled ≠ []) then
                s.masters[m].resp.stallElapsed + d
              else s.masters[m].resp.stallElapsed } }) ∧
    (∀ time, s.advanceTo time = s.passTime (time - s.now)))

/-- Every command, in every state, answers a next state and leaves the queue of waiting commands as it
is: the spec gives every event an effect, a count or a discard. Model's choices: that a command whose event
does not arise answers the state unchanged (log 2), the queue itself (log 15), and that POWER_ON and
PWRON_N_LOW keep it (log 23). -/
def Obligations.EveryCommandAnswersNext : Prop :=
  ∀ (c : Instr) (s : State), ∃ t, exec c s = .next t ∧ t.pending = s.pending

/-- POWER_ON samples the straps and gives every piece of state its power-on value (R2, R11, R23, R70, R93,
R105, R111, R115, R151, R152, R164, R177, R193). That it does so with PWRON_N already high, where no rising
edge arises, is the model's choice (log 31). -/
def Obligations.PowerOnGivesPowerOnValues : Prop :=
  ∀ (mp : BitVec 4) (tp : BitVec 6) (ad : BitVec 4) (bz : BitVec 2) (s : State),
    ∃ t, exec (.powerOn mp tp ad bz) s = .next t ∧
      t.pwronN = true ∧ t.straps = ⟨mp, tp, ad, bz⟩ ∧ t.now = 0 ∧
      t.generation = 0 ∧ t.planeState = .steady ∧
      (∀ p : PlaneId, t.refCounts[p] = 0 ∧ t.decrements[p] = 0) ∧
      (∀ p : PlaneId, t.window p 0 =
        { enabled := tp[0], base := 0, sizeExp := 24 + 4 * bz.toNat, target := 0, translation := none,
          cls := .strict,
          access := Vector.ofFn fun m : Fin 4 => if mp[m] then Access.readWrite else Access.none,
          deadlineClass := 2, retryBudget := 4 }) ∧
      (∀ (p : PlaneId) (i : WindowIndex), i ≠ 0 → t.window p i =
        { enabled := false, base := 0, sizeExp := 0, target := 0, translation := none, cls := .strict,
          access := Vector.replicate 4 Access.none, deadlineClass := 0, retryBudget := 0 }) ∧
      (∀ m : Master, t.port m =
          { state := .offline, faults := 0
            ingress :=
              { dataQueue := [], controlQueue := [], headPhase := .unrouted, headSlot := false,
                dataOutstanding := 0, dataOwed := 0, controlOutstanding := 0, controlOwed := 0 }
            resp :=
              { reserved := [], filled := [], notices := [], advertised := 0, credits := 0,
                stallElapsed := 0, stallLimit := 20 }
            fence := { slot := none, postedFailures := 0 } } ∧
        t.held[m] = 0 ∧ t.flushReports[m] = 0 ∧ (∀ a : Target, t.announcements[m][a] = 0) ∧
        t.limits m = { quota := 16, weight := 1, stall := 20 }) ∧
      t.control.op = none ∧ t.control.pointer = 0 ∧ t.control.leasePeriod = 50 ∧
      t.control.deadlines = #v[20, 500, 10000, 200000] ∧
      (∀ i : OrtIndex, t.entry i = { reuse := 0, use := none }) ∧ t.freeBlocks = 256 ∧
      (∀ (a : Target) (m : Master), t.lane a m = []) ∧
      (∀ a : Target, t.target a =
        { state := if tp[a] then .down else .absent,
          posted := { advertised := 0, held := 0, inUse := 0 },
          request := { advertised := 0, held := 0, inUse := 0 },
          stale := 0, creditFaults := 0, pointer := 0, run := 0 })

/-- PWRON_N_LOW loses every ORT entry, ingress queue, notice and response; while PWRON_N is low no command
but POWER_ON and PWRON_N_LOW has an effect (R193). That the Plane Controller then reads STEADY, the Control
Unit IDLE and every port OFFLINE is the model's choice (log 5). A port that is not strapped present takes no
packet or link event (R164). -/
def Obligations.NoEventWithoutPowerOrPort : Prop :=
  (∀ s : State, ∃ t, exec .pwronLow s = .next t ∧ t.pwronN = false ∧
    (∀ i : OrtIndex, (t.entry i).use = none) ∧ t.planeState = .steady ∧ t.control.op = none ∧
    (∀ m : Master, (t.port m).state = .offline ∧ (t.port m).ingress.dataQueue = [] ∧
      (t.port m).ingress.controlQueue = [] ∧ (t.port m).resp.notices = [] ∧
      (t.port m).resp.filled = [])) ∧
  (∀ (c : Instr) (s : State), s.pwronN = false → c ≠ .pwronLow →
    (∀ mp tp ad bz, c ≠ .powerOn mp tp ad bz) → exec c s = .next s) ∧
  (∀ (c : Instr) (m : Master) (s : State), c.masterPort? = some m → s.masterPresent m = false →
    exec c s = .next s)

/-! ## Master links -/

/-- READ, WRITE and FENCE join the data ingress queue, and CONTROL the control ingress queue, against an
outstanding credit of an ACTIVE port; a READ or WRITE that finds the data queue empty becomes head and is
routed in the same event. Without a credit they are a protocol fault in every state of a present port, and in
QUARANTINED a packet with a credit is discarded and its credit becomes owed (R49 to R54). -/
def Obligations.RequestPacketsByPortState : Prop :=
  (∀ (c : Instr) (m : Master) (pkt : DataPacket) (s : State),
    c.dataPacket? = some (m, pkt) → s.HearsMaster m →
      ((s.port m).state = .active → 1 ≤ (s.port m).ingress.dataOutstanding →
        (s.port m).ingress.dataQueue ≠ [] →
        exec c s = .next (s.modIngress m fun g =>
          { g with dataQueue := g.dataQueue ++ [pkt], dataOutstanding := g.dataOutstanding - 1 })) ∧
      ((s.port m).state = .active → 1 ≤ (s.port m).ingress.dataOutstanding →
        (s.port m).ingress.dataQueue = [] →
        exec c s = .next (State.newHeadRouted
          (s.modIngress m fun g =>
            { g with dataQueue := [pkt], headPhase := .unrouted, headSlot := false,
                     dataOutstanding := g.dataOutstanding - 1 }) m)) ∧
      ((s.port m).state = .quarantined → 1 ≤ (s.port m).ingress.dataOutstanding →
        exec c s = .next (s.modIngress m fun g =>
          { g with dataOutstanding := g.dataOutstanding - 1, dataOwed := g.dataOwed + 1 })) ∧
      ((s.port m).state = .offline ∨ (s.port m).ingress.dataOutstanding = 0 →
        exec c s = .next (s.oneMoreFault m))) ∧
  (∀ (m : Master) (tag : Tag) (op : Byte) (args : List Byte) (s : State),
    args.length ≤ 255 → s.HearsMaster m →
      ((s.port m).state = .active → 1 ≤ (s.port m).ingress.controlOutstanding →
        exec (.control m tag op args) s = .next (s.modIngress m fun g =>
          { g with controlQueue := g.controlQueue ++ [⟨tag, op, args⟩],
                   controlOutstanding := g.controlOutstanding - 1 })) ∧
      ((s.port m).state = .quarantined → 1 ≤ (s.port m).ingress.controlOutstanding →
        exec (.control m tag op args) s = .next (s.modIngress m fun g =>
          { g with controlOutstanding := g.controlOutstanding - 1, controlOwed := g.controlOwed + 1 })) ∧
      ((s.port m).state = .offline ∨ (s.port m).ingress.controlOutstanding = 0 →
        exec (.control m tag op args) s = .next (s.oneMoreFault m)))

/-- LINK_UP with a count of 1 to 16 opens an OFFLINE port with its response credits, its ingress owed
counts and an EMPTY fence slot; another count, or an ACTIVE port, is a fault; QUARANTINED discards it
(R165, R166). -/
def Obligations.LinkUpOpensThePort : Prop :=
  ∀ (m : Master) (n : Byte) (s : State), s.HearsMaster m →
    ((s.port m).state = .offline → 1 ≤ n.toNat → n.toNat ≤ 16 →
      exec (.linkUp m n) s = .next (s.modPort m fun p =>
        { p with
          state := .active
          ingress := { p.ingress with dataOwed := 8, controlOwed := 2, dataOutstanding := 0,
                                      controlOutstanding := 0 }
          resp := { p.resp with advertised := n.toNat, credits := n.toNat, stallElapsed := 0,
                                stallLimit := (s.limits m).stall }
          fence := { slot := none, postedFailures := 0 } })) ∧
    ((s.port m).state = .offline → n.toNat = 0 ∨ 16 < n.toNat →
      exec (.linkUp m n) s = .next (s.oneMoreFault m)) ∧
    ((s.port m).state = .active → exec (.linkUp m n) s = .next (s.oneMoreFault m)) ∧
    ((s.port m).state = .quarantined → exec (.linkUp m n) s = .next s)

/-- CREDIT in ACTIVE adds the returned credits up to the number in use, and an excess is one fault; in
other states it is discarded without a fault (R142, R166). -/
def Obligations.CreditReturnsResponseCredits : Prop :=
  ∀ (m : Master) (n : Byte) (s : State), s.HearsMaster m →
    (s.port m).resp.credits ≤ (s.port m).resp.advertised →
    ((s.port m).state = .active →
      n.toNat ≤ (s.port m).resp.advertised - (s.port m).resp.credits →
      exec (.credit m n) s = .next (s.modResp m fun r => { r with credits := r.credits + n.toNat })) ∧
    ((s.port m).state = .active →
      (s.port m).resp.advertised - (s.port m).resp.credits < n.toNat →
      exec (.credit m n) s =
        .next (State.oneMoreFault (s.modResp m fun r => { r with credits := r.advertised }) m)) ∧
    ((s.port m).state ≠ .active → exec (.credit m n) s = .next s)

/-- LINK_RESET and MASTER_LINK_LOST: no effect in OFFLINE; in QUARANTINED the port becomes OFFLINE with its
ingress counts 0 and no flush; in ACTIVE the port is flushed and becomes OFFLINE, its ORT entries are
treated entry by entry, the freed entries leave their lanes and the master's held count, the blocks of
entries freed or lapsed return to the Data Pool, a decrement is sent for each of them, the flush is
reported, and no other master, plane, target port or setting changes (R71, R75, R84, R91, R92, R94, R150,
R162, R166 to R168, R173). A LAPSED posted write is left as it is, its failure reporting included (the
model's reading, log 10). -/
def Obligations.EndOfMasterLink : Prop :=
  ∀ (c : Instr) (m : Master) (s : State), c = .linkReset m ∨ c = .masterLinkLost m → s.HearsMaster m →
    ((s.port m).state = .offline → exec c s = .next s) ∧
    ((s.port m).state = .quarantined → exec c s = .next (s.modPort m fun p =>
      { p with state := .offline,
               ingress := { p.ingress with dataOutstanding := 0, dataOwed := 0,
                                           controlOutstanding := 0, controlOwed := 0 } })) ∧
    ((s.port m).state = .active → s.LaneLaw →
      ∃ t, exec c s = .next t ∧
        t.port m =
          { state := .offline, faults := (s.port m).faults
            ingress :=
              { dataQueue := [], controlQueue := [], headPhase := .unrouted, headSlot := false,
                dataOutstanding := 0, dataOwed := 0, controlOutstanding := 0, controlOwed := 0 }
            resp :=
              { reserved := [], filled := [], notices := [], advertised := 0, credits := 0,
                stallElapsed := 0, stallLimit := (s.limits m).stall }
            fence := { slot := none, postedFailures := 0 } } ∧
        (∀ a, a ≠ m → t.port a = s.port a) ∧
        s.Flushed t m ∧ t.now = s.now)

/-- MALFORMED_MASTER_FRAME is discarded and counted once as a fault; in ACTIVE and QUARANTINED a frame of
kind READ, WRITE, FENCE or CONTROL that had an outstanding credit of its queue makes that credit owed, and
nothing else changes (R190). -/
def Obligations.MalformedMasterFrameIsCounted : Prop :=
  ∀ (m : Master) (frame : List Byte) (s : State),
    decodeMasterFrame m frame = .malformedMasterFrame m frame → s.HearsMaster m →
    exec (.malformedMasterFrame m frame) s = .next (s.modPort m fun p =>
      { p with
        faults := min (p.faults + 1) 65535
        ingress :=
          if p.state ≠ .offline ∧ 1 ≤ p.ingress.dataOutstanding ∧
              (frame.head? = some 0x01 ∨ frame.head? = some 0x02 ∨ frame.head? = some 0x03) then
            { p.ingress with dataOutstanding := p.ingress.dataOutstanding - 1,
                             dataOwed := p.ingress.dataOwed + 1 }
          else if p.state ≠ .offline ∧ 1 ≤ p.ingress.controlOutstanding ∧
              frame.head? = some 0x04 then
            { p.ingress with controlOutstanding := p.ingress.controlOutstanding - 1,
                             controlOwed := p.ingress.controlOwed + 1 }
          else p.ingress })

/-! ## Lookup and admission -/

/-- A lookup answers by the first byte, then the last byte, then the access, with the routing of the
window found in the live plane (R3, R6, R8, R14 to R16). -/
def Obligations.LookupByFirstByteLastByteAccess : Prop :=
  ∀ (s : State) (m : Master) (isWrite : Bool) (a : Address) (len : Nat),
    NoOverlap s.planes[s.live] → 1 ≤ len →
    ((∀ i, ¬((s.window s.live i).enabled = true ∧ (s.window s.live i).base.toNat ≤ a.toNat ∧
        a.toNat < (s.window s.live i).base.toNat + 2 ^ (s.window s.live i).sizeExp)) →
      s.lookup m isWrite a len = .noWindow) ∧
    ∀ i, (s.window s.live i).enabled = true → (s.window s.live i).base.toNat ≤ a.toNat →
      a.toNat < (s.window s.live i).base.toNat + 2 ^ (s.window s.live i).sizeExp →
      ∃ r : Routing,
        (r.plane = s.live ∧ r.generation = s.generation ∧ r.window = i ∧
          r.target = (s.window s.live i).target ∧ r.cls = (s.window s.live i).cls ∧
          r.deadlineClass = (s.window s.live i).deadlineClass ∧
          r.retryBudget = (s.window s.live i).retryBudget ∧
          ((s.window s.live i).translation = none → r.address = a) ∧
          (∀ x, (s.window s.live i).translation = some x →
            r.address = x + (a - (s.window s.live i).base))) ∧
        s.lookup m isWrite a len =
          if (s.window s.live i).base.toNat + 2 ^ (s.window s.live i).sizeExp < a.toNat + len then .span r
          else if (s.window s.live i).access[m] = .readWrite ∨
              ((s.window s.live i).access[m] = .read ∧ isWrite = false) then .hit r
          else .noAccess r

/-- HEAD_ROUTING of an UNROUTED READ or WRITE head that holds no slot: the checks of R55 in order decide
the head's phase, and nothing else changes (R7, R54 to R56). With a FENCE at the head, no head, or a head that
has been routed, there is nothing to route and nothing changes (R54, R68; the model's choice, log 2). -/
def Obligations.HeadRoutingChecksInOrder : Prop :=
  (∀ (m : Master) (q : Request) (s : State), s.AtHead m q →
    (s.port m).ingress.headPhase = .unrouted → (s.port m).ingress.headSlot = false →
    let route (ph : HeadPhase) : Prop := exec (.headRouting m) s = .next (s.setHeadPhase m ph)
    (q.length = 0 ∨ 256 < q.length → route (.refused .badLength)) ∧
    (1 ≤ q.length → q.length ≤ 256 →
      (s.planeState.phase = .holding → route .unrouted) ∧
      (s.planeState.phase ≠ .holding →
        (s.lookup m q.isWrite q.addr q.length = .noWindow → route (.refused .noWindow)) ∧
        (∀ r, s.lookup m q.isWrite q.addr q.length = .span r → route (.refused .span)) ∧
        (∀ r, s.lookup m q.isWrite q.addr q.length = .noAccess r → route (.refused .noAccess)) ∧
        (∀ r, s.lookup m q.isWrite q.addr q.length = .hit r →
          ((s.target r.target).state ≠ .up → route (.refused .targetDown)) ∧
          ((s.target r.target).state = .up →
            (q.isWrite = true → r.cls = .posted → route (.routed r .writeP)) ∧
            (q.isWrite = false ∨ r.cls ≠ .posted →
              ((∃ i u, (s.entry i).use = some u ∧ u.master = m ∧ u.responseOwed = true ∧
                  u.phase.counted = true ∧ u.tag = q.tag) → route (.refused .tagInUse)) ∧
              ((∀ i u, (s.entry i).use = some u → u.master = m → u.responseOwed = true →
                  u.phase.counted = true → u.tag ≠ q.tag) →
                route (.routed r (if q.isWrite then .writeNp else .read))))))))) ∧
  (∀ (m : Master) (s : State), s.pwronN = true →
    s.headRequest m = none ∨ (s.port m).ingress.headPhase ≠ .unrouted →
    exec (.headRouting m) s = .next s)

/-- HEAD_ROUTING of an UNROUTED head that holds a slot, which a discarded routing leaves: a refusal fills
the slot and the head leaves in the same event, in which the packet behind it becomes head and is routed; a
routing makes an admission attempt in the same event (R53, R54, R57, R60, R66). -/
def Obligations.HeadRoutingWithSlot : Prop :=
  ∀ (m : Master) (q : Request) (s : State), s.AtHead m q →
    (s.port m).ingress.headPhase = .unrouted → (s.port m).ingress.headSlot = true →
    .head ∈ (s.port m).resp.reserved →
    (s.routePhase m q = .unrouted → exec (.headRouting m) s = .next s) ∧
    (∀ st, s.routePhase m q = .refused st → exec (.headRouting m) s = .next (State.headLeft
      (s.modResp m fun r =>
        { r with
          reserved := r.reserved.erase .head
          filled := r.filled ++ [if q.isWrite then .writeDone q.tag st else .readDone q.tag st []] })
      m)) ∧
    (∀ r k, s.routePhase m q = .routed r k →
      exec (.headRouting m) s = exec (.admissionAttempt m) (s.setHeadPhase m (.routed r k)))

/-- SLOT_CLAIM_GRANT with a FREE slot: a REFUSED head reserves and fills it and leaves, and the packet behind
it becomes head and is routed in the same event; a FENCE head reserves it and is taken in the same event if
the fence slot is EMPTY; a ROUTED head reserves it and makes its first admission attempt. With no FREE slot
the claim waits (R53, R54, R57, R58, R60, R68, R136, R153). -/
def Obligations.SlotClaimGrant : Prop :=
  ∀ (m : Master) (s : State), s.pwronN = true →
    (16 ≤ (s.port m).resp.reserved.length + (s.port m).resp.filled.length →
      exec (.slotClaimGrant m) s = .next s) ∧
    ((s.port m).resp.reserved.length + (s.port m).resp.filled.length < 16 →
      (s.port m).ingress.headSlot = false →
      (∀ q st, s.headRequest m = some q → (s.port m).ingress.headPhase = .refused st →
        exec (.slotClaimGrant m) s = .next (State.headLeft
          (s.modResp m fun r =>
            { r with filled := r.filled ++
              [if q.isWrite then .writeDone q.tag st else .readDone q.tag st []] }) m)) ∧
      (∀ tag, s.dataHead m = some (.fence tag) →
        exec (.slotClaimGrant m) s = exec (.fenceTake m) (s.modPort m fun p =>
          { p with ingress := { p.ingress with headSlot := true },
                   resp := { p.resp with reserved := .head :: p.resp.reserved } })) ∧
      (∀ q r k, s.headRequest m = some q → (s.port m).ingress.headPhase = .routed r k →
        exec (.slotClaimGrant m) s = exec (.admissionAttempt m) (s.modPort m fun p =>
          { p with ingress := { p.ingress with headSlot := true },
                   resp := { p.resp with reserved := .head :: p.resp.reserved } })))

/-- ADMISSION_ATTEMPT of a ROUTED head that holds its slot, with every condition of R59 met, admits it:
the lowest FREE entry, the blocks, the lane place, the plane reference and the slot are taken in one event,
and the head leaves; the packet behind it becomes head and is routed in the same event, in which the new
entry already holds its tag (R40, R53, R54, R56, R59, R63 to R65, R101). -/
def Obligations.AdmissionCreatesTheEntry : Prop :=
  ∀ (m : Master) (q : Request) (r : Routing) (k : Kind) (i : OrtIndex) (s : State), s.AtHead m q →
    (s.port m).ingress.headPhase = .routed r k → (s.port m).ingress.headSlot = true →
    .head ∈ (s.port m).resp.reserved →
    r.generation = s.generation → s.planeState.phase ≠ .holding → (s.target r.target).state = .up →
    (s.entry i).use = none → (∀ j, j < i → (s.entry j).use ≠ none) →
    s.held[m] < (s.limits m).quota → (s.lane r.target m).length < 16 →
    (if q.isWrite then (q.length + 63) / 64 else 0) ≤ s.freeBlocks →
    exec (.admissionAttempt m) s = .next (State.headLeft
      { s with
        ort := s.ort.set i
          { reuse := (s.entry i).reuse + 1
            use := some
              { phase := .waiting (s.now + s.classValue r.deadlineClass), master := m, tag := q.tag,
                kind := k,
                cls := if q.isWrite then r.cls else if r.cls = .relaxed then .relaxed else .strict,
                plane := r.plane, window := r.window, target := r.target, address := r.address,
                length := q.length, blocks := if q.isWrite then (q.length + 63) / 64 else 0,
                data := q.data, retries := 0, responseOwed := k != .writeP,
                failureReporting := k == .writeP } }
        held := s.held.set m (s.held[m] + 1)
        freeBlocks := s.freeBlocks - (if q.isWrite then (q.length + 63) / 64 else 0)
        lanes := s.lanes.set r.target (s.lanes[r.target].set m (s.lanes[r.target][m] ++ [i]))
        refCounts := s.refCounts.set r.plane (s.refCounts[r.plane] + 1)
        masters := s.masters.set m
          { s.masters[m] with
            resp := if k = .writeP then
                { s.masters[m].resp with
                  reserved := s.masters[m].resp.reserved.erase .head
                  filled := s.masters[m].resp.filled ++ [.writeAck q.tag] }
              else
                { s.masters[m].resp with
                  reserved := .ort i :: s.masters[m].resp.reserved.erase .head } } } m)

/-- An admission attempt in the order of R61: a routing of another generation, or to a port not UP, is
discarded and made again in the event; else HOLDING or a missing resource makes the head wait with nothing
changed. TARGET_DOWN_ANNOUNCEMENT takes one announcement; a READ or WRITE head whose routing names the port
has the routing discarded and made again in the event, and with any other head, or none, nothing else
changes (R40, R59, R61, R66, R67). With no announcement sent it changes nothing, whatever the head: the
model's choice (log 2) on its count of announcements sent (log 20). -/
def Obligations.AttemptWaitsOrIsReroutedInOrder : Prop :=
  (∀ (m : Master) (q : Request) (r : Routing) (k : Kind) (s : State), s.AtHead m q →
    (s.port m).ingress.headPhase = .routed r k → (s.port m).ingress.headSlot = true →
    (r.generation ≠ s.generation ∨ (s.target r.target).state ≠ .up →
      exec (.admissionAttempt m) s = exec (.headRouting m) (s.setHeadPhase m .unrouted)) ∧
    (r.generation = s.generation → (s.target r.target).state = .up →
      (s.planeState.phase = .holding ∨ (∀ i, (s.entry i).use ≠ none) ∨
        (s.limits m).quota ≤ s.held[m] ∨ 16 ≤ (s.lane r.target m).length ∨
        s.freeBlocks < (if q.isWrite then (q.length + 63) / 64 else 0)) →
      exec (.admissionAttempt m) s = .next s)) ∧
  (∀ (m : Master) (t : Target) (s : State), s.pwronN = true →
    let taken : State :=
      { s with announcements :=
          s.announcements.set m (s.announcements[m].set t (s.announcements[m][t] - 1)) }
    (s.announcements[m][t] = 0 → exec (.targetDownAnnouncement m t) s = .next s) ∧
    (0 < s.announcements[m][t] →
      (∀ q r k, s.headRequest m = some q → (s.port m).ingress.headPhase = .routed r k →
        r.target ≠ t) →
      exec (.targetDownAnnouncement m t) s = .next taken) ∧
    (∀ q r k, 0 < s.announcements[m][t] → s.headRequest m = some q →
      (s.port m).ingress.headPhase = .routed r k → r.target = t →
      exec (.targetDownAnnouncement m t) s =
        exec (.headRouting m) (taken.setHeadPhase m .unrouted)))

/-- FENCE_TAKE of a FENCE head that holds its slot with the fence slot EMPTY: the fence covers the master's
WRITE_P entries in WAITING, ISSUED or BACKOFF with failure reporting yes, takes the posted-failure count
and the slot, and the head leaves; the packet behind it becomes head and is routed in the same event. With no
entry to cover, FENCE_DONE fills the slot at once. With the fence slot OCCUPIED the FENCE waits (R53, R54,
R68, R153, R156). -/
def Obligations.FenceTake : Prop :=
  ∀ (m : Master) (tag : Tag) (s : State), s.pwronN = true → s.dataHead m = some (.fence tag) →
    (s.port m).ingress.headSlot = true → .head ∈ (s.port m).resp.reserved →
    ((s.port m).fence.slot ≠ none → exec (.fenceTake m) s = .next s) ∧
    ((s.port m).fence.slot = none → ∃ set : List OrtIndex,
      set.Nodup ∧
      (∀ i, i ∈ set ↔ ∃ u, (s.entry i).use = some u ∧ u.master = m ∧ u.kind = .writeP ∧
        u.phase.counted = true ∧ u.failureReporting = true) ∧
      exec (.fenceTake m) s = .next (State.headLeft (s.modPort m fun p =>
        { p with
          resp :=
            if set = [] then
              { p.resp with
                reserved := p.resp.reserved.erase .head
                filled := p.resp.filled ++ [.fenceDone tag p.fence.postedFailures] }
            else { p.resp with reserved := .fence :: p.resp.reserved.erase .head }
          fence :=
            if set = [] then { slot := none, postedFailures := 0 }
            else { slot := some { members := set, failures := p.fence.postedFailures, tag := tag },
                   postedFailures := 0 } }) m))

/-- CONTROL_TAKE: the IDLE Control Unit takes the control head of the first master, in cyclic order from
its pointer, that has one and a FREE slot; it reserves the slot, makes the credit owed, holds the operation
record and moves the pointer past that master. Without such a master, or EXECUTING, nothing changes (R69,
R178). -/
def Obligations.ControlTakeByRotation : Prop :=
  ∀ s : State, s.pwronN = true →
    (s.control.op ≠ none → exec .controlTake s = .next s) ∧
    ((∀ m, s.controlHead m = none ∨
        16 ≤ (s.port m).resp.reserved.length + (s.port m).resp.filled.length) →
      exec .controlTake s = .next s) ∧
    (∀ (d : Fin 4) (pkt : ControlPacket), s.control.op = none →
      s.controlHead (s.control.pointer + d) = some pkt →
      (s.port (s.control.pointer + d)).resp.reserved.length +
        (s.port (s.control.pointer + d)).resp.filled.length < 16 →
      (∀ e : Fin 4, e < d → s.controlHead (s.control.pointer + e) = none ∨
        16 ≤ (s.port (s.control.pointer + e)).resp.reserved.length +
          (s.port (s.control.pointer + e)).resp.filled.length) →
      exec .controlTake s = .next
        { s.modPort (s.control.pointer + d) (fun p =>
            { p with
              ingress := { p.ingress with controlQueue := p.ingress.controlQueue.tail,
                                          controlOwed := p.ingress.controlOwed + 1 }
              resp := { p.resp with reserved := .control :: p.resp.reserved } }) with
          control := { s.control with
            op := some ⟨s.control.pointer + d, pkt.tag, pkt.op, pkt.args⟩
            pointer := s.control.pointer + d + 1 } })

/-! ## Control operations -/

/-- An operation in execution, of any code, ends in its event with CONTROL_DONE, carrying its tag and its
operation code, as the youngest response of the requester if its slot is still RESERVED, dropped otherwise,
and the Control Unit is IDLE (R137, R179 to R181, R189). That it is the youngest also where a head of the
requester, resumed in the event of a CANCEL_SWITCH, fills its slot is the model's reading: the heads resume
before CONTROL_DONE fills (log 26). -/
def Obligations.OperationEndsWithControlDone : Prop :=
  (∀ (c : Instr) (op : Operation) (s : State), s.pwronN = true → s.control.op = some op →
    c.operationCode? = some op.code ∨
      (c = .unknownOperation ∧ (op.code.toNat = 0 ∨ 17 < op.code.toNat)) →
    ∃ t code record, exec c s = .next t ∧ t.control.op = none ∧
      t.control.pointer = s.control.pointer ∧
      (.control ∈ (s.port op.requester).resp.reserved →
        (t.port op.requester).resp.filled.getLast? =
          some (.controlDone op.tag op.code code record)) ∧
      (.control ∉ (s.port op.requester).resp.reserved → ∀ tag x code' record',
        .controlDone tag x code' record' ∈ (t.port op.requester).resp.filled →
        .controlDone tag x code' record' ∈ (s.port op.requester).resp.filled)) ∧
  (∀ (op : Operation) (code : ResultCode) (record : ResultRecord) (s : State),
    s.finish op code record =
      { s.modResp op.requester (fun r =>
          if .control ∈ r.reserved then
            { r with reserved := r.reserved.erase .control,
                     filled := r.filled ++ [.controlDone op.tag op.code code record] }
          else r) with
        control := { s.control with op := none } })

/-- The checks that precede an operation's own: a code outside the catalogue is refused UNKNOWN_OPERATION
with the code; an admin operation of a master that is no admin master NOT_ADMIN; a wrong argument byte
count BAD_ARGUMENT with reason FORM, which renews the lease timer for the holder's PUT_WINDOW,
REVERT_STAGED and REQUEST_SWITCH in EDITING (R24, R181, R191). The record of NOT_ADMIN for the operations
that are no plane operations, codes 0Dh to 11h, is empty (the model's reading, log 8). A command whose
operation is not the one in execution changes nothing (the model's choice, log 2). -/
def Obligations.ChecksBeforeTheOperationsOwn : Prop :=
  (∀ (c : Instr) (code : Byte) (s : State), c.operationCode? = some code → s.pwronN = true →
    (∀ op, s.control.op = some op → op.code ≠ code) → exec c s = .next s) ∧
  (∀ (op : Operation) (s : State), s.pwronN = true → s.control.op = some op →
    (op.code.toNat = 0 ∨ 17 < op.code.toNat →
      exec .unknownOperation s = .next (s.finish op .unknownOperation (.unknownOperation op.code))) ∧
    (1 ≤ op.code.toNat ∧ op.code.toNat ≤ 17 → exec .unknownOperation s = .next s)) ∧
  (∀ (c : Instr) (op : Operation) (s : State), c.operationCode? = some op.code → s.pwronN = true →
    s.control.op = some op →
    (7 ≤ op.code.toNat → s.isAdmin op.requester = false →
      exec c s = .next (s.finish op .notAdmin
        (if op.code.toNat ≤ 12 then
          .planeRefusal s.planeState.phase s.generation s.planeState.holder
        else .empty))) ∧
    ((7 ≤ op.code.toNat → s.isAdmin op.requester = true) →
      op.args.length ≠ argumentBytes op.code →
      (∀ t, 9 ≤ op.code.toNat → op.code.toNat ≤ 11 → s.planeState = .editing op.requester t →
        exec c s = .next (State.finish
          { s with planeState := .editing op.requester ⟨s.now, s.control.leasePeriod⟩ }
          op .badArgument .form)) ∧
      ((op.code.toNat < 9 ∨ 11 < op.code.toNat ∨ ∀ t, s.planeState ≠ .editing op.requester t) →
        exec c s = .next (s.finish op .badArgument .form))))

/-- GET_WINDOW resolves the role by the generation and returns the entry whole; PROBE makes a lookup of
length 1 for the requester in the live plane. Neither changes any other state (R1, R2, R18, R22). A bad role
is named before a bad index (the model's reading, log 11). -/
def Obligations.MapReadsReturnTheMap : Prop :=
  (∀ (op : Operation) (role index : Byte) (s : State), s.Executing op 0x01 2 →
    op.args = [role, index] →
    (1 < role.toNat → exec .getWindow s = .next (s.finish op .badArgument (.argument 0))) ∧
    (role.toNat ≤ 1 → 32 ≤ index.toNat →
      exec .getWindow s = .next (s.finish op .badArgument (.argument 1))) ∧
    (role.toNat ≤ 1 → ∀ i : WindowIndex, i.val = index.toNat →
      exec .getWindow s = .next (s.finish op .ok (.window
        { plane := if role.toNat = 0 then s.live else s.other
          role := if role.toNat = 0 then .live
            else if s.planeState = .draining then .old else .staged
          phase := s.planeState.phase
          index := i
          generation := s.generation
          entry := s.window (if role.toNat = 0 then s.live else s.other) i })))) ∧
  (∀ (op : Operation) (a : Address) (kind : Byte) (s : State), s.Executing op 0x02 7 →
    op.args = leBytes 6 a.toNat ++ [kind] →
    (1 < kind.toNat → exec .probe s = .next (s.finish op .badArgument (.argument 1))) ∧
    (∀ isWrite, kind.toNat = (if isWrite then 1 else 0) →
      (s.lookup op.requester isWrite a 1 = .noWindow →
        exec .probe s = .next (s.finish op .ok (.probed
          { outcome := .noWindow, plane := s.live, generation := s.generation, window := 0, target := 0,
            address := 0, cls := .strict, deadlineClass := 0, retryBudget := 0 }))) ∧
      (∀ r, s.lookup op.requester isWrite a 1 = .hit r →
        exec .probe s = .next (s.finish op .ok (.probed
          { outcome := .hit, plane := s.live, generation := s.generation, window := r.window,
            target := r.target, address := r.address, cls := r.cls, deadlineClass := r.deadlineClass,
            retryBudget := r.retryBudget }))) ∧
      (∀ r, s.lookup op.requester isWrite a 1 = .noAccess r →
        exec .probe s = .next (s.finish op .ok (.probed
          { outcome := .noAccess, plane := s.live, generation := s.generation, window := r.window,
            target := r.target, address := r.address, cls := r.cls, deadlineClass := r.deadlineClass,
            retryBudget := r.retryBudget }))) ∧
      (∀ r, s.lookup op.requester isWrite a 1 ≠ .span r)))

/-- The status operations read the state and change nothing but the response: GET_PLANE_STATUS,
GET_MASTER_STATUS with the master's entries in index order, GET_TARGET_STATUS, GET_SETTINGS (R23, R182 to
R185). The time left of a timer that has run out and whose expiry is not yet taken is 0 (the model's choice,
log 28). -/
def Obligations.StatusOperationsReadTheState : Prop :=
  (∀ (op : Operation) (s : State), s.Executing op 0x03 0 →
    exec .getPlaneStatus s = .next (s.finish op .ok (.planeStatus
      { phase := s.planeState.phase, live := s.live, holder := s.planeState.holder,
        generation := s.generation, count0 := s.refCounts[0], count1 := s.refCounts[1],
        leaseLeft := match s.planeState with
          | .editing _ t => 1000 * t.lengthMs - (s.now - t.started)
          | _ => 0
        drainLeft := match s.planeState with
          | .holding _ t => 1000 * t.lengthMs - (s.now - t.started)
          | _ => 0 }))) ∧
  (∀ (op : Operation) (n : Byte) (s : State), s.Executing op 0x04 1 → op.args = [n] →
    (4 ≤ n.toNat → exec .getMasterStatus s = .next (s.finish op .badArgument (.argument 0))) ∧
    (∀ m : Master, m.val = n.toNat → ∃ r : MasterStatus,
      exec .getMasterStatus s = .next (s.finish op .ok (.masterStatus r)) ∧
      r.master = m ∧ r.present = s.straps.mpresent[m] ∧ r.admin = s.straps.admin[m] ∧
      r.state = (s.port m).state ∧ r.faults = (s.port m).faults ∧ r.limits = s.limits m ∧
      r.held = s.held[m] ∧
      r.dataPackets = (s.port m).ingress.dataQueue.length ∧
      r.dataOutstanding = (s.port m).ingress.dataOutstanding ∧
      r.dataOwed = (s.port m).ingress.dataOwed ∧
      r.controlPackets = (s.port m).ingress.controlQueue.length ∧
      r.controlOutstanding = (s.port m).ingress.controlOutstanding ∧
      r.controlOwed = (s.port m).ingress.controlOwed ∧
      r.slotsInUse = (s.port m).resp.reserved.length + (s.port m).resp.filled.length ∧
      r.noticesHeld = (s.port m).resp.notices.length ∧
      r.advertised = (s.port m).resp.advertised ∧ r.credits = (s.port m).resp.credits ∧
      r.fenceOccupied = (s.port m).fence.slot.isSome ∧
      (∀ f, (s.port m).fence.slot = some f →
        r.fenceMembers = f.members.length ∧ r.fenceFailures = f.failures) ∧
      ((s.port m).fence.slot = none → r.fenceMembers = 0 ∧ r.fenceFailures = 0) ∧
      r.postedFailures = (s.port m).fence.postedFailures ∧
      r.items.Pairwise (fun x y => x.index < y.index) ∧
      (∀ x, x ∈ r.items ↔ ∃ u, (s.entry x.index).use = some u ∧ u.master = m ∧
        x = { index := x.index, reuse := (s.entry x.index).reuse, entry := u,
              deadlineLeft := (u.phase.deadline?.getD s.now) - s.now,
              backoffLeft := (u.phase.backoffEnd?.getD s.now) - s.now,
              lapseLeft := (u.phase.lapseEnd?.getD s.now) - s.now }))) ∧
  (∀ (op : Operation) (n : Byte) (s : State), s.Executing op 0x05 1 → op.args = [n] →
    (6 ≤ n.toNat → exec .getTargetStatus s = .next (s.finish op .badArgument (.argument 0))) ∧
    (∀ a : Target, a.val = n.toNat →
      exec .getTargetStatus s = .next (s.finish op .ok (.targetStatus
        { port := a, state := (s.target a).state, posted := (s.target a).posted,
          request := (s.target a).request, stale := (s.target a).stale,
          creditFaults := (s.target a).creditFaults,
          lanes := Vector.ofFn fun m : Fin 4 => (s.lane a m).length,
          issued := s.countAt a OrtPhase.isIssued, backoff := s.countAt a OrtPhase.isBackoff,
          lapsed := s.countAt a OrtPhase.isLapsed })))) ∧
  (∀ (op : Operation) (s : State), s.Executing op 0x06 0 →
    exec .getSettings s = .next (s.finish op .ok (.settings
      { leasePeriod := s.control.leasePeriod, deadlines := s.control.deadlines,
        limits := s.control.limits, straps := s.straps })))

/-- CLAIM_EDIT by the Plane Controller's state and the requester: NOT_ADMIN in every state, granted in
STEADY, renewed for the holder, LEASE_HELD, BUSY, DRAINING, with the record of each (R25). The time left in
a LEASE_HELD record of a lease that has run out and whose expiry is not yet taken is 0 (the model's choice,
log 28). -/
def Obligations.ClaimEditByState : Prop :=
  ∀ (op : Operation) (s : State), s.Executing op 0x07 0 →
    let granted : State := State.finish
      { s with planeState := .editing op.requester ⟨s.now, s.control.leasePeriod⟩ } op .ok
      (.claimed op.requester s.control.leasePeriod s.generation s.live)
    let refusal := ResultRecord.planeRefusal s.planeState.phase s.generation s.planeState.holder
    (s.isAdmin op.requester = false →
      exec .claimEdit s = .next (s.finish op .notAdmin refusal)) ∧
    (s.isAdmin op.requester = true →
      (s.planeState = .steady → exec .claimEdit s = .next granted) ∧
      (∀ t, s.planeState = .editing op.requester t → exec .claimEdit s = .next granted) ∧
      (∀ h t, s.planeState = .editing h t → h ≠ op.requester →
        exec .claimEdit s = .next (s.finish op .leaseHeld
          (.leaseHeld h (1000 * t.lengthMs - (s.now - t.started))))) ∧
      (∀ h t, s.planeState = .holding h t →
        exec .claimEdit s = .next (s.finish op .busy refusal)) ∧
      (s.planeState = .draining → exec .claimEdit s = .next (s.finish op .draining refusal)))

/-- RELEASE_EDIT by the Plane Controller's state and the requester: NOT_ADMIN, taken from the holder in
EDITING, BUSY to the holder in HOLDING, NO_LEASE to any other admin master (R26). -/
def Obligations.ReleaseEditByState : Prop :=
  ∀ (op : Operation) (s : State), s.Executing op 0x08 0 →
    let refusal := ResultRecord.planeRefusal s.planeState.phase s.generation s.planeState.holder
    (s.isAdmin op.requester = false →
      exec .releaseEdit s = .next (s.finish op .notAdmin refusal)) ∧
    (s.isAdmin op.requester = true →
      (∀ t, s.planeState = .editing op.requester t →
        exec .releaseEdit s = .next (State.finish { s with planeState := .steady } op .ok
          (.released s.generation))) ∧
      (∀ t, s.planeState = .holding op.requester t →
        exec .releaseEdit s = .next (s.finish op .busy refusal)) ∧
      (s.planeState.holder ≠ some op.requester →
        exec .releaseEdit s = .next (s.finish op .noLease refusal)))

/-- PUT_WINDOW stores the entry that its record spells at its index in the staged plane when the checks of
R20 pass in their order, and REVERT_STAGED copies the live plane into the staged plane; both renew the
lease timer. Only the holder in EDITING is served: BUSY to the holder in HOLDING, NO_LEASE to any other
admin master (R19 to R21, R24). -/
def Obligations.EditsWriteTheStagedPlane : Prop :=
  ∀ (op : Operation) (s : State), s.isAdmin op.requester = true →
    let renewed : State :=
      { s with planeState := .editing op.requester ⟨s.now, s.control.leasePeriod⟩ }
    let refusal := ResultRecord.planeRefusal s.planeState.phase s.generation s.planeState.holder
    (∀ (index : Byte) (r : List Byte), s.Executing op 0x09 19 → op.args = index :: r →
      (s.planeState.holder ≠ some op.requester →
        exec .putWindow s = .next (s.finish op .noLease refusal)) ∧
      (∀ t, s.planeState = .holding op.requester t →
        exec .putWindow s = .next (s.finish op .busy refusal)) ∧
      (∀ t, s.planeState = .editing op.requester t →
        (∀ reason, s.putFailure index r = some reason →
          exec .putWindow s = .next (renewed.finish op .badArgument (.putCheck reason index))) ∧
        (s.putFailure index r = none → ∃ (i : WindowIndex) (w : Window), i.val = index.toNat ∧
          w.Spells r ∧
          exec .putWindow s = .next (State.finish
            { renewed with planes := s.planes.set s.other (s.planes[s.other].set i w) } op .ok
            (.windowPut s.other s.generation))))) ∧
    (s.Executing op 0x0A 0 →
      (s.planeState.holder ≠ some op.requester →
        exec .revertStaged s = .next (s.finish op .noLease refusal)) ∧
      (∀ t, s.planeState = .holding op.requester t →
        exec .revertStaged s = .next (s.finish op .busy refusal)) ∧
      (∀ t, s.planeState = .editing op.requester t →
        exec .revertStaged s = .next (State.finish
          { renewed with planes := s.planes.set s.other s.planes[s.live] } op .ok
          (.reverted s.generation))))

/-- The refusals of REQUEST_SWITCH in the order of R29: DRAINING, NO_LEASE, BUSY with no state changed;
BAD_ARGUMENT naming the mode or the drain limit, and INVALID_PLANE naming the first overlapping pair of
enabled staged entries, with the lease timer renewed (R24, R29, R30). -/
def Obligations.RequestSwitchRefusedInOrder : Prop :=
  ∀ (op : Operation) (mode lo hi : Byte) (s : State), s.isAdmin op.requester = true →
    s.Executing op 0x0B 3 → op.args = [mode, lo, hi] →
    let renewed : State :=
      { s with planeState := .editing op.requester ⟨s.now, s.control.leasePeriod⟩ }
    let refusal := ResultRecord.planeRefusal s.planeState.phase s.generation s.planeState.holder
    let limit := lo.toNat + 256 * hi.toNat
    (s.planeState = .draining → exec .requestSwitch s = .next (s.finish op .draining refusal)) ∧
    (s.planeState ≠ .draining → s.planeState.holder ≠ some op.requester →
      exec .requestSwitch s = .next (s.finish op .noLease refusal)) ∧
    (∀ t, s.planeState = .holding op.requester t →
      exec .requestSwitch s = .next (s.finish op .busy refusal)) ∧
    (∀ t, s.planeState = .editing op.requester t →
      (1 < mode.toNat →
        exec .requestSwitch s = .next (renewed.finish op .badArgument (.argument 0))) ∧
      (mode.toNat = 1 → limit = 0 ∨ 1000 < limit →
        exec .requestSwitch s = .next (renewed.finish op .badArgument (.argument 1))) ∧
      (mode.toNat = 0 ∨ (mode.toNat = 1 ∧ 1 ≤ limit ∧ limit ≤ 1000) →
        ∀ i j : WindowIndex, i < j → s.planes[s.other][i].overlaps s.planes[s.other][j] = true →
          (∀ i' j' : WindowIndex, i' < j' →
            s.planes[s.other][i'].overlaps s.planes[s.other][j'] = true →
            i < i' ∨ (i = i' ∧ j ≤ j')) →
          exec .requestSwitch s = .next (renewed.finish op .invalidPlane (.invalidPlane i j))))

/-- REQUEST_SWITCH of the holder in EDITING with a staged plane free of overlap. IMMEDIATE flips, and
reconciles in the same event when the old plane's count is 0, else DRAINING. QUIESCED does the same as a
settled flip when the live plane's count is 0, else HOLDING with the drain limit timer started (R29, R31 to
R33, R41, R46, R47). The settled indication of a switch that is held is no (the model's choice, log 27). -/
def Obligations.RequestSwitchTaken : Prop :=
  ∀ (op : Operation) (mode lo hi : Byte) (t : Timer) (s : State), s.isAdmin op.requester = true →
    s.Executing op 0x0B 3 → op.args = [mode, lo, hi] → s.planeState = .editing op.requester t →
    NoOverlap s.planes[s.other] →
    let limit := lo.toNat + 256 * hi.toNat
    (s.refCounts[s.live] = 0 → mode.toNat = 0 →
      exec .requestSwitch s = .next (s.flippedAndSettled.finish op .ok
        (.switched .immediate .steady (s.generation + 1) s.other true none))) ∧
    (s.refCounts[s.live] ≠ 0 → mode.toNat = 0 →
      exec .requestSwitch s = .next (State.finish
        (({ s with generation := s.generation + 1, planeState := .draining }).mapPorts
          fun m p => s.flipNotices (s.generation + 1) false m p)
        op .ok (.switched .immediate .draining (s.generation + 1) s.other false none))) ∧
    (s.refCounts[s.live] = 0 → mode.toNat = 1 → 1 ≤ limit → limit ≤ 1000 →
      exec .requestSwitch s = .next (s.flippedAndSettled.finish op .ok
        (.switched .quiesced .steady (s.generation + 1) s.other true none))) ∧
    (s.refCounts[s.live] ≠ 0 → mode.toNat = 1 → 1 ≤ limit → limit ≤ 1000 →
      exec .requestSwitch s = .next (State.finish
        { s with planeState := .holding op.requester ⟨s.now, limit⟩ } op .ok
        (.switched .quiesced .holding s.generation s.live false (some limit))))

/-- CANCEL_SWITCH by the Plane Controller's state and the requester: NOT_ADMIN, NOT_HOLDING, NO_LEASE, and
from the holder in HOLDING the return to EDITING with the lease timer started and no notice, in which the
waiting heads are routed (R37, R54). In what order they are, and that they are before CONTROL_DONE fills, is
the model's reading (log 26). -/
def Obligations.CancelSwitchByState : Prop :=
  ∀ (op : Operation) (s : State), s.Executing op 0x0C 0 →
    let refusal := ResultRecord.planeRefusal s.planeState.phase s.generation s.planeState.holder
    (s.isAdmin op.requester = false →
      exec .cancelSwitch s = .next (s.finish op .notAdmin refusal)) ∧
    (s.isAdmin op.requester = true →
      (s.planeState.phase ≠ .holding →
        exec .cancelSwitch s = .next (s.finish op .notHolding refusal)) ∧
      (∀ h t, s.planeState = .holding h t → h ≠ op.requester →
        exec .cancelSwitch s = .next (s.finish op .noLease refusal)) ∧
      (∀ t, s.planeState = .holding op.requester t →
        ∃ order : List Master, order.Perm [0, 1, 2, 3] ∧
          exec .cancelSwitch s = .next (State.finish
            (State.resumed
              { s with planeState := .editing op.requester ⟨s.now, s.control.leasePeriod⟩ } order)
            op .ok (.cancelled s.generation s.control.leasePeriod))))

/-- The settings operations of an admin master replace the values they name when every value is in range,
else they name the first argument refused and change no setting; nothing else changes (R186 to R188). -/
def Obligations.SettingsAreReplacedInRange : Prop :=
  (∀ (op : Operation) (lo hi : Byte) (s : State), s.isAdmin op.requester = true →
    s.Executing op 0x0D 2 → op.args = [lo, hi] →
    let p := lo.toNat + 256 * hi.toNat
    (1 ≤ p → p ≤ 1000 →
      exec .setLeasePeriod s = .next (State.finish
        { s with control := { s.control with leasePeriod := p } } op .ok
        (.periodSet s.control.leasePeriod p))) ∧
    (p = 0 ∨ 1000 < p →
      exec .setLeasePeriod s = .next (s.finish op .badArgument (.argument 0)))) ∧
  (∀ (op : Operation) (n q w lo hi : Byte) (s : State), s.isAdmin op.requester = true →
    s.Executing op 0x0E 5 → op.args = [n, q, w, lo, hi] →
    let stall := lo.toNat + 256 * hi.toNat
    let refused (i : Nat) : Prop :=
      exec .setMasterLimits s = .next (s.finish op .badArgument (.argument i))
    (4 ≤ n.toNat → refused 0) ∧
    (n.toNat < 4 → q.toNat = 0 ∨ 64 < q.toNat → refused 1) ∧
    (n.toNat < 4 → 1 ≤ q.toNat → q.toNat ≤ 64 → w.toNat = 0 ∨ 8 < w.toNat → refused 2) ∧
    (n.toNat < 4 → 1 ≤ q.toNat → q.toNat ≤ 64 → 1 ≤ w.toNat → w.toNat ≤ 8 →
      stall = 0 ∨ 250 < stall → refused 3) ∧
    (∀ m : Master, m.val = n.toNat → 1 ≤ q.toNat → q.toNat ≤ 64 → 1 ≤ w.toNat → w.toNat ≤ 8 →
      1 ≤ stall → stall ≤ 250 →
      exec .setMasterLimits s = .next (State.finish
        { s with control := { s.control with
            limits := s.control.limits.set m ⟨q.toNat, w.toNat, stall⟩ } } op .ok
        (.limitsSet (s.limits m) ⟨q.toNat, w.toNat, stall⟩)))) ∧
  (∀ (op : Operation) (v : Vector Nat 4) (s : State), s.isAdmin op.requester = true →
    s.Executing op 0x0F 16 → (∀ d : DeadlineClass, v[d] < 2 ^ 32) →
    op.args = leBytes 4 v[0] ++ leBytes 4 v[1] ++ leBytes 4 v[2] ++ leBytes 4 v[3] →
    ((∀ d : DeadlineClass, 10 ≤ v[d] ∧ v[d] ≤ 1000000) →
      exec .setDeadlines s = .next (State.finish
        { s with control := { s.control with deadlines := v } } op .ok
        (.deadlinesSet s.control.deadlines v))) ∧
    (∀ d : DeadlineClass, (v[d] < 10 ∨ 1000000 < v[d]) →
      (∀ e : DeadlineClass, e < d → 10 ≤ v[e] ∧ v[e] ≤ 1000000) →
      exec .setDeadlines s = .next (s.finish op .badArgument (.argument d.val))))

/-- CLEAR_QUARANTINE of an admin master: BAD_ARGUMENT outside M0 to M3, NOT_QUARANTINED for a port in
another state and for the requester itself, whatever its port has become, else the link is forced down and
the port becomes OFFLINE with its ingress counts 0, without a flush or a notice (R172 to R174, R180, R189).
The record of NOT_QUARANTINED is empty (the model's reading, log 8). -/
def Obligations.ClearQuarantineOpensTheWay : Prop :=
  ∀ (op : Operation) (n : Byte) (s : State), s.isAdmin op.requester = true →
    s.Executing op 0x10 1 → op.args = [n] →
    (4 ≤ n.toNat → exec .clearQuarantine s = .next (s.finish op .badArgument (.argument 0))) ∧
    (∀ m : Master, m.val = n.toNat →
      ((s.port m).state ≠ .quarantined ∨ m = op.requester →
        exec .clearQuarantine s = .next (s.finish op .notQuarantined .empty)) ∧
      ((s.port m).state = .quarantined → m ≠ op.requester →
        exec .clearQuarantine s = .next (State.finish
          (State.putMaster
            (s.modPort m fun p =>
              { p with state := .offline,
                       ingress := { p.ingress with dataOutstanding := 0, dataOwed := 0,
                                                   controlOutstanding := 0, controlOwed := 0 } })
            m .linkDown)
          op .ok (.quarantineCleared m))))

/-- RESET_TARGET of an admin master: BAD_ARGUMENT for a number outside T0 to T5 and for a port in ABSENT;
else a link reset is signalled and the port is DOWN, with TARGET_DOWN to every ACTIVE master in every case.
When it was UP it leaves UP as R128 says: its entries fail with TARGET_LOST or are freed in index order,
their fences are told, their blocks, decrements and held counts follow, and it is announced (R90 to R92, R95,
R115, R128 to R130, R163, R189). A head that is routed because a fence ends in this event reads the ORT at its
turn: the model's reading, log 29. -/
def Obligations.ResetTargetPutsThePortDown : Prop :=
  ∀ (op : Operation) (n : Byte) (s : State), s.isAdmin op.requester = true →
    s.Executing op 0x11 1 → op.args = [n] →
    (6 ≤ n.toNat → exec .resetTarget s = .next (s.finish op .badArgument (.argument 0))) ∧
    (∀ a : Target, a.val = n.toNat →
      ((s.target a).state = .absent →
        exec .resetTarget s = .next (s.finish op .badArgument (.argument 0))) ∧
      ((s.target a).state = .down ∨ (s.target a).state = .training →
        exec .resetTarget s = .next (State.finish
          (((s.putTarget a .linkReset).modTarget a fun p => { p with state := .down }).notifyAll
            (fun _ => true) (.targetDown a .resetTarget (s.target a).state))
          op .ok (.targetReset a (s.target a).state))) ∧
      ((s.target a).state = .up → s.LaneLaw → s.PromiseLaw → ∃ u,
        State.LeftUp (s.putTarget a .linkReset) u a .resetTarget ∧
        exec .resetTarget s = .next (u.finish op .ok (.targetReset a .up))))

/-! ## The Plane Controller's own events -/

/-- LEASE_TIMER_EXPIRY in EDITING clears the holder, makes the state STEADY, keeps the planes and hands
LEASE_EXPIRED to the former holder if its port is ACTIVE; in another state there is no such expiry (R27).
DRAIN_LIMIT_EXPIRY in HOLDING returns to EDITING with the lease timer started, routes the waiting heads and
hands SWITCH_ABANDONED(DRAIN_LIMIT) to the holder; in another state there is no such expiry (R36, R54). An
expiry happens at its time: the timebase has reached it (the model's convention, log 3); the order of the
heads (log 26) and that an expiry which does not arise changes nothing (log 2) are the model's. -/
def Obligations.PlaneTimerExpiries : Prop :=
  ∀ s : State, s.pwronN = true →
    (∀ h t, s.planeState = .editing h t →
      exec .leaseTimerExpiry s =
        .next (({ s.advanceTo (t.started + 1000 * t.lengthMs) with planeState := .steady }).modPort h
          fun p => p.notify (.leaseExpired s.generation))) ∧
    (s.planeState.phase ≠ .editing → exec .leaseTimerExpiry s = .next s) ∧
    (∀ h t, s.planeState = .holding h t →
      ∃ order : List Master, order.Perm [0, 1, 2, 3] ∧
        exec .drainLimitExpiry s = .next
          (State.modPort
            (State.resumed
              { s.advanceTo (t.started + 1000 * t.lengthMs) with
                planeState := .editing h
                  ⟨max s.now (t.started + 1000 * t.lengthMs), s.control.leasePeriod⟩ } order)
            h fun p => p.notify (.switchAbandoned .drainLimit s.generation))) ∧
    (s.planeState.phase ≠ .holding → exec .drainLimitExpiry s = .next s)

/-- PLANE_COUNT_DECREMENT lowers the count of its plane by one for a decrement that was sent. The old
plane's count reaching 0 in DRAINING reconciles; the live plane's count reaching 0 in HOLDING completes the
held switch and routes the waiting heads against the new plane in the same event; otherwise nothing else
changes (R35, R39, R41, R42, R54). The order of the heads is the model's free value (log 26); that a flushed
holder whose port is ACTIVE again gets the notices of the flip is the model's choice (log 30); that a
decrement never sent changes nothing is the model's choice (log 2) on its count of those sent (log 20). -/
def Obligations.PlaneCountDecrement : Prop :=
  ∀ (p : PlaneId) (s : State), s.pwronN = true →
    let taken : State :=
      { s with decrements := s.decrements.set p (s.decrements[p] - 1),
               refCounts := s.refCounts.set p (s.refCounts[p] - 1) }
    (s.decrements[p] = 0 → exec (.planeCountDecrement p) s = .next s) ∧
    (0 < s.decrements[p] → 1 < s.refCounts[p] →
      exec (.planeCountDecrement p) s = .next taken) ∧
    (0 < s.decrements[p] →
      (¬(s.planeState.phase = .draining ∧ p = s.other) ∧
        ¬(s.planeState.phase = .holding ∧ p = s.live)) →
      exec (.planeCountDecrement p) s = .next taken) ∧
    (0 < s.decrements[p] → s.refCounts[p] = 1 → s.planeState.phase = .draining → p = s.other →
      exec (.planeCountDecrement p) s = .next
        (({ taken with planes := s.planes.set s.other s.planes[s.live], planeState := .steady }).notifyAll
          s.isAdmin (.planeSettled s.generation))) ∧
    (0 < s.decrements[p] → s.refCounts[p] = 1 → s.planeState.phase = .holding → p = s.live →
      ∃ order : List Master, order.Perm [0, 1, 2, 3] ∧
        exec (.planeCountDecrement p) s = .next (taken.flippedAndSettled.resumed order))

/-- FLUSH_REPORT: the flushed master's lease ends without a notice in EDITING, and its held switch is given
up in HOLDING with SWITCH_ABANDONED(REQUESTER_LOST) to every other ACTIVE admin master, in which the waiting
heads are routed; a report of another master, or in STEADY or DRAINING, changes nothing in the Plane
Controller (R43, R44, R54). The order of the heads is the model's free value (log 26); that a report never
sent changes nothing is the model's choice (log 2) on its count of those sent (log 20). -/
def Obligations.FlushReportEndsTheLease : Prop :=
  ∀ (m : Master) (s : State), s.pwronN = true →
    let taken : State := { s with flushReports := s.flushReports.set m (s.flushReports[m] - 1) }
    (s.flushReports[m] = 0 → exec (.flushReport m) s = .next s) ∧
    (0 < s.flushReports[m] →
      (s.planeState.holder ≠ some m → exec (.flushReport m) s = .next taken) ∧
      (∀ t, s.planeState = .editing m t →
        exec (.flushReport m) s = .next { taken with planeState := .steady }) ∧
      (∀ t, s.planeState = .holding m t →
        ∃ order : List Master, order.Perm [0, 1, 2, 3] ∧
          exec (.flushReport m) s = .next (State.resumed
            (({ taken with planeState := .steady }).mapPorts fun a p =>
              if s.isAdmin a = true ∧ a ≠ m then
                p.notify (.switchAbandoned .requesterLost s.generation)
              else p)
            order)))

/-! ## Lanes and target links -/

/-- A lane offers its first eligible entry from the head: WAITING, with a credit of its class held, and
allowed to pass every entry ahead of it (R101 to R104). -/
def Obligations.LaneOffersItsFirstEligibleEntry : Prop :=
  ∀ (s : State) (t : Target) (m : Master), (∀ j, j ∈ s.lane t m → (s.entry j).use ≠ none) →
    let eligible (ahead : List OrtIndex) (i : OrtIndex) : Prop :=
      ∃ u, (s.entry i).use = some u ∧ (∃ d, u.phase = .waiting d) ∧
        1 ≤ (if u.kind = .writeP then (s.target t).posted.held else (s.target t).request.held) ∧
        ∀ j v, j ∈ ahead → (s.entry j).use = some v →
          u.cls = .relaxed ∨ (u.cls = .posted ∧ v.cls ≠ .posted)
    (∀ i, s.offer t m = some i ↔
      ∃ ahead behind, s.lane t m = ahead ++ i :: behind ∧ eligible ahead i ∧
        ∀ l j r, ahead = l ++ j :: r → ¬ eligible l j) ∧
    (s.offer t m = none ↔ ∀ ahead i behind, s.lane t m = ahead ++ i :: behind → ¬ eligible ahead i)

/-- GRANT_EVENT: the run of the pointer's master goes on while its lane offers and its run count is below
its weight; else the first master after it in cyclic order whose lane offers begins a run of 1. The granted
entry is issued: its message is sent, with its target tag, length, translated address and data as 11.3 lays
them out, one credit of its class goes in use, it leaves its lane and is ISSUED with its deadline kept. With
no lane offering nothing changes (R74, R77, R105 to R108, R120, R123). -/
def Obligations.GrantIssuesTheOfferedEntry : Prop :=
  ∀ (t : Target) (s : State), s.pwronN = true → s.LaneLaw →
    let p := (s.target t).pointer
    let issued (m : Master) (i : OrtIndex) (run : Nat) : Prop :=
      ∃ u d, (s.entry i).use = some u ∧ u.phase = .waiting d ∧
        exec (.grantEvent t) s = .next
          { s with
            targetOut := s.targetOut.set t (s.targetOut[t] ++
              [.frame ([if u.kind = .read then 0x01 else if u.kind = .writeNp then 0x02 else 0x03,
                  BitVec.ofNat 8 (4 * i.val + (s.entry i).reuse.toNat)] ++
                littleEndian 2 u.length ++ littleEndian 6 u.address.toNat ++ [0, 0] ++ u.data)])
            targets := s.targets.set t
              { s.targets[t] with
                posted := if u.kind = .writeP then
                    { s.targets[t].posted with held := s.targets[t].posted.held - 1,
                                               inUse := s.targets[t].posted.inUse + 1 }
                  else s.targets[t].posted
                request := if u.kind = .writeP then s.targets[t].request
                  else { s.targets[t].request with held := s.targets[t].request.held - 1,
                                                   inUse := s.targets[t].request.inUse + 1 }
                pointer := m
                run := run }
            lanes := s.lanes.set t (s.lanes[t].set m (s.lanes[t][m].erase i))
            ort := s.ort.set i { s.ort[i] with use := some { u with phase := .issued d } } }
    ((∀ m, s.offer t m = none) → exec (.grantEvent t) s = .next s) ∧
    (∀ i, s.offer t p = some i → (s.target t).run < (s.limits p).weight →
      issued p i ((s.target t).run + 1)) ∧
    ((s.offer t p = none ∨ (s.limits p).weight ≤ (s.target t).run) →
      ∀ (d : Fin 4) (i : OrtIndex), s.offer t (p + 1 + d) = some i →
        (∀ e : Fin 4, e < d → s.offer t (p + 1 + e) = none) → issued (p + 1 + d) i 1)

/-- TARGET_LINK_DETECTED moves a DOWN port to TRAINING and changes nothing else; TARGET_LINK_LOST takes a
port out of UP as R128 says, with its entries, fences, blocks, decrements and held counts, and from TRAINING
to DOWN with TARGET_DOWN to every ACTIVE master (R90 to R92, R95, R116, R127 to R129, R163); neither arises
in another state, and nothing changes there (log 2). A head that is routed because a fence ends in this event
reads the ORT at its turn: the model's reading, log 29. -/
def Obligations.TargetLinkFoundAndLost : Prop :=
  ∀ (t : Target) (s : State), s.pwronN = true →
    ((s.target t).state = .down →
      exec (.targetLinkDetected t) s = .next (s.modTarget t fun p => { p with state := .training })) ∧
    ((s.target t).state ≠ .down → exec (.targetLinkDetected t) s = .next s) ∧
    ((s.target t).state = .up → s.LaneLaw → s.PromiseLaw → ∃ u,
      State.LeftUp s u t .linkLost ∧ exec (.targetLinkLost t) s = .next u) ∧
    ((s.target t).state = .training →
      exec (.targetLinkLost t) s = .next ((s.modTarget t fun p => { p with state := .down }).notifyAll
        (fun _ => true) (.targetDown t .linkLost .training))) ∧
    ((s.target t).state = .down ∨ (s.target t).state = .absent →
      exec (.targetLinkLost t) s = .next s)

/-- A T_READY taken while the port is UP is discarded: the credit-fault count rises by one, saturating, and
the credit counts, the state and every other part stay, no notice among them; GET_TARGET_STATUS then
reports the raised count (R119). -/
def Obligations.TReadyInUpIsACreditFault : Prop :=
  ∀ (t : Target) (posted request : Byte) (s : State), s.pwronN = true → (s.target t).state = .up →
    exec (.tReady t posted request) s = .next (s.modTarget t fun p =>
      { p with creditFaults := min (p.creditFaults + 1) 65535 }) ∧
    ((s.modTarget t fun p =>
      { p with creditFaults := min (p.creditFaults + 1) 65535 }).targetStatus t).creditFaults =
        min ((s.target t).creditFaults + 1) 65535

/-- T_READY in TRAINING with both counts 1 to 32 brings the port UP with its credits and TARGET_UP to every
ACTIVE master, and with another count is a credit fault. T_CREDIT in UP returns each class's credits up to
those in use, and an excess of either class is one credit fault; in TRAINING it is a credit fault (R117,
R118, R121). -/
def Obligations.CreditMessagesOfATarget : Prop :=
  ∀ (t : Target) (posted request : Byte) (s : State), s.pwronN = true →
    let fault (u : State) : State :=
      u.modTarget t fun p => { p with creditFaults := min (p.creditFaults + 1) 65535 }
    ((s.target t).state = .training →
      (1 ≤ posted.toNat → posted.toNat ≤ 32 → 1 ≤ request.toNat → request.toNat ≤ 32 →
        exec (.tReady t posted request) s = .next ((s.modTarget t fun p =>
          { p with state := .up, posted := ⟨posted.toNat, posted.toNat, 0⟩,
                   request := ⟨request.toNat, request.toNat, 0⟩ }).notifyAll
          (fun _ => true) (.targetUp t posted.toNat request.toNat))) ∧
      (posted.toNat = 0 ∨ 32 < posted.toNat ∨ request.toNat = 0 ∨ 32 < request.toNat →
        exec (.tReady t posted request) s = .next (fault s)) ∧
      exec (.tCredit t posted request) s = .next (fault s)) ∧
    ((s.target t).state = .up →
      let returned : State := s.modTarget t fun p =>
        { p with
          posted := { p.posted with held := p.posted.held + min posted.toNat p.posted.inUse,
                                    inUse := p.posted.inUse - min posted.toNat p.posted.inUse }
          request := { p.request with held := p.request.held + min request.toNat p.request.inUse,
                                      inUse := p.request.inUse - min request.toNat p.request.inUse } }
      (posted.toNat ≤ (s.target t).posted.inUse → request.toNat ≤ (s.target t).request.inUse →
        exec (.tCredit t posted request) s = .next returned) ∧
      ((s.target t).posted.inUse < posted.toNat ∨ (s.target t).request.inUse < request.toNat →
        exec (.tCredit t posted request) s = .next (fault returned)))

/-- A report of a WRITE_P's retirement at the Fence Tracker: a member leaves the fence set and a failure is
counted for the fence; for any other entry a failure raises the posted-failure count; the last member's
report fills FENCE_DONE into the fence's slot, empties the fence slot and takes a FENCE that waits with a
slot (R154 to R156). -/
def Obligations.FenceTrackerTakesReports : Prop :=
  ∀ (m : Master) (i : OrtIndex) (failed : Bool) (s : State), s.pwronN = true →
    let counted (n : Nat) : Nat := if failed then min (n + 1) 65535 else n
    ((∀ f, (s.port m).fence.slot = some f → i ∉ f.members) →
      s.fenceReport m i failed = s.modPort m fun p =>
        { p with fence := { p.fence with postedFailures := counted p.fence.postedFailures } }) ∧
    (∀ f, (s.port m).fence.slot = some f → i ∈ f.members →
      (f.members.erase i ≠ [] → s.fenceReport m i failed = s.modPort m fun p =>
        { p with fence :=
            ⟨some ⟨f.members.erase i, counted f.failures, f.tag⟩, p.fence.postedFailures⟩ }) ∧
      (f.members.erase i = [] → .fence ∈ (s.port m).resp.reserved →
        .next (s.fenceReport m i failed) = exec (.fenceTake m) (s.modPort m fun p =>
          { p with
            fence := { p.fence with slot := none }
            resp := { p.resp with
              reserved := p.resp.reserved.erase .fence
              filled := p.resp.filled ++ [.fenceDone f.tag (counted f.failures)] } })))

/-- T_COMPLETE taken by an ISSUED READ or WRITE_NP entry with its response owed retires it: READ_DONE(OK)
with the data of the entry's length, WRITE_DONE(OK) without data, and TARGET_ERROR with no data for a FAULT
status or data that does not fit (R75, R78, R79, R192). -/
def Obligations.CompletionRetiresTheEntry : Prop :=
  ∀ (t : Target) (tag status : Byte) (data : List Byte) (i : OrtIndex) (u : OrtUse) (s : State),
    data.length ≤ 256 → s.Answers t tag i u → u.kind ≠ .writeP → u.responseOwed = true →
    .ort i ∈ (s.port u.master).resp.reserved →
    exec (.tComplete t tag status data) s = .next ((s.retired i u).answered i u
      (if status.toNat = 0 ∧ data.length = (if u.kind = .read then u.length else 0) then .ok
        else .targetError)
      (if status.toNat = 0 ∧ data.length = (if u.kind = .read then u.length else 0) then data else []))

/-- T_ACCEPT taken by an ISSUED WRITE_P entry retires it as delivered, T_REJECT as failed with
TARGET_REJECT, whatever the status byte; with failure reporting no, nothing is reported (R75, R78, R80,
R90). -/
def Obligations.PostedAnswersRetireTheEntry : Prop :=
  ∀ (t : Target) (tag status : Byte) (i : OrtIndex) (u : OrtUse) (s : State),
    s.Answers t tag i u → u.kind = .writeP →
    (u.failureReporting = true →
      exec (.tAccept t tag status) s = .next ((s.retired i u).fenceReport u.master i false)) ∧
    (u.failureReporting = false → exec (.tAccept t tag status) s = .next (s.retired i u)) ∧
    exec (.tReject t tag status) s = .next ((s.retired i u).failureReported i u .targetReject)

/-- T_RETRY taken by an ISSUED entry with budget and lane room left sends it to BACKOFF at the head of its
lane for 4 µs times 2 to the retries before it, at most 512 µs, its deadline kept; without budget or room
the entry retires and fails with RETRY_EXHAUSTED (R10, R17, R78, R81, R82, R97). -/
def Obligations.RetryBacksOffOrFails : Prop :=
  ∀ (t : Target) (tag : Byte) (i : OrtIndex) (u : OrtUse) (d : Nat) (s : State),
    s.Answers t tag i u → u.phase = .issued d →
    (u.responseOwed = true → .ort i ∈ (s.port u.master).resp.reserved) →
    (u.retries < (s.window u.plane u.window).retryBudget.val → (s.lane t u.master).length < 16 →
      exec (.tRetry t tag) s = .next
        { s with
          lanes := s.lanes.set t (s.lanes[t].set u.master (i :: s.lanes[t][u.master]))
          ort := s.ort.set i { s.ort[i] with use := some { u with
            phase := .backoff d (s.now + min (4 * 2 ^ u.retries) 512), retries := u.retries + 1 } } }) ∧
    ((s.window u.plane u.window).retryBudget.val ≤ u.retries ∨ 16 ≤ (s.lane t u.master).length →
      exec (.tRetry t tag) s = .next ((s.retired i u).failureReported i u .retryExhausted))

/-- Every other answer in UP: one that names a LAPSED entry by index, reuse count and port frees it
silently; one that no entry takes is stale and counted; in TRAINING every answer is stale. Malformed target
frames count a credit fault for T_READY and T_CREDIT, else a stale frame, on an established link (R78, R85,
R118, R124, R125, R192; on a link not established nothing is counted: the model's reading, log 16). -/
def Obligations.StaleLapsedAndMalformedAnswers : Prop :=
  ∀ (c : Instr) (t : Target) (tag : Byte) (fits : Kind → Bool) (s : State), s.pwronN = true →
    ((∃ status data, data.length ≤ 256 ∧ c = .tComplete t tag status data ∧
        fits = fun k => k != .writeP) ∨
      (∃ status, c = .tAccept t tag status ∧ fits = fun k => k == .writeP) ∨
      (∃ status, c = .tReject t tag status ∧ fits = fun k => k == .writeP) ∨
      (c = .tRetry t tag ∧ fits = fun _ => true)) →
    let stale : State := s.modTarget t fun p => { p with stale := min (p.stale + 1) 65535 }
    let i := targetTagIndex tag
    ((s.target t).state = .training → exec c s = .next stale) ∧
    ((s.target t).state = .down ∨ (s.target t).state = .absent → exec c s = .next s) ∧
    ((s.target t).state = .up →
      ((s.entry i).use = none → exec c s = .next stale) ∧
      (∀ u, (s.entry i).use = some u →
        ((s.entry i).reuse ≠ targetTagReuse tag ∨ u.target ≠ t ∨ u.phase.inLane = true ∨
          (u.phase.isIssued = true ∧ fits u.kind = false) → exec c s = .next stale) ∧
        ((s.entry i).reuse = targetTagReuse tag → u.target = t → u.phase.isLapsed = true →
          exec c s = .next
            { s with ort := s.ort.set i { s.ort[i] with use := none },
                     held := s.held.set u.master (s.held[u.master] - 1) }))) ∧
    (∀ frame, decodeTargetFrame t frame = .malformedTargetFrame t frame →
      (s.target t).state = .up ∨ (s.target t).state = .training →
      ((frame.head? = some 0x20 ∨ frame.head? = some 0x21) →
        exec (.malformedTargetFrame t frame) s = .next (s.modTarget t fun p =>
          { p with creditFaults := min (p.creditFaults + 1) 65535 })) ∧
      (frame.head? ≠ some 0x20 → frame.head? ≠ some 0x21 →
        exec (.malformedTargetFrame t frame) s = .next stale))

/-! ## Timers of entries and masters, and the transmitter -/

/-- DEADLINE_EXPIRY of an entry in WAITING or BACKOFF retires it to FREE with TIMEOUT, and of an ISSUED
entry makes it LAPSED, with its lapse end from the class value held now, its blocks and plane reference
given back and TIMEOUT reported; LAPSE_END frees a LAPSED entry silently; BACKOFF_END makes a BACKOFF entry
WAITING in its place. None arises for an entry whose timer does not run (R75, R76, R82 to R85, R89, R90).
An expiry happens at its time: taken before it, it brings the timebase to it (log 3); one that does not
arise changes nothing (log 2). -/
def Obligations.EntryTimersExpire : Prop :=
  ∀ (i : OrtIndex) (s : State), s.pwronN = true →
    ((s.entry i).use = none → exec (.deadlineExpiry i) s = .next s ∧
      exec (.lapseEnd i) s = .next s ∧ exec (.backoffEnd i) s = .next s) ∧
    (∀ u, (s.entry i).use = some u →
      (u.responseOwed = true → .ort i ∈ (s.port u.master).resp.reserved) →
      (∀ d, u.phase.deadline? = some d → u.phase.inLane = true →
        exec (.deadlineExpiry i) s =
          .next (((s.advanceTo d).retired i u).failureReported i u .timeout)) ∧
      (∀ d, u.phase = .issued d →
        exec (.deadlineExpiry i) s = .next (State.failureReported
          { s.advanceTo d with
            ort := s.ort.set i { s.ort[i] with use := some { u with
              phase := .lapsed
                (max s.now d + s.classValue (s.window u.plane u.window).deadlineClass)
              blocks := 0
              data := []
              responseOwed := false } }
            freeBlocks := s.freeBlocks + u.blocks
            decrements := s.decrements.set u.plane (s.decrements[u.plane] + 1) }
          i u .timeout)) ∧
      (∀ l, u.phase = .lapsed l →
        exec (.deadlineExpiry i) s = .next s ∧ exec (.backoffEnd i) s = .next s ∧
        exec (.lapseEnd i) s = .next
          { s.advanceTo l with
            ort := s.ort.set i { s.ort[i] with use := none }
            held := s.held.set u.master (s.held[u.master] - 1) }) ∧
      (∀ d b, u.phase = .backoff d b →
        exec (.backoffEnd i) s = .next
          { s.advanceTo b with
            ort := s.ort.set i { s.ort[i] with use := some { u with phase := .waiting d } } }) ∧
      (u.phase.isLapsed = false → exec (.lapseEnd i) s = .next s) ∧
      (u.phase.isBackoff = false → exec (.backoffEnd i) s = .next s))

/-- STALL_EXPIRY of a running stall timer quarantines and flushes the port: its ingress keeps the credits
of the packets it discards as owed, its responses, notices, credits and fence are gone, its entries are
treated as in any flush, their lanes, blocks, decrements and held counts with them, the flush is reported,
and every other ACTIVE master is handed MASTER_QUARANTINED (R71, R75, R84, R91, R92, R94, R148 to R150, R162,
R168, R171). A LAPSED posted write is left as it is (the model's reading, log 10). A stall timer that does
not run does not expire: STALL_EXPIRY then changes nothing (log 2). -/
def Obligations.StallExpiryQuarantinesThePort : Prop :=
  ∀ (m : Master) (s : State), s.pwronN = true → s.LaneLaw →
    (¬((s.port m).state = .active ∧ (s.port m).resp.credits = 0 ∧
        ((s.port m).resp.notices ≠ [] ∨ (s.port m).resp.filled ≠ [])) →
      exec (.stallExpiry m) s = .next s) ∧
    ((s.port m).state = .active → (s.port m).resp.credits = 0 →
      (s.port m).resp.notices ≠ [] ∨ (s.port m).resp.filled ≠ [] →
      (s.port m).resp.stallElapsed = 1000 * (s.port m).resp.stallLimit →
      ∃ t, exec (.stallExpiry m) s = .next t ∧
        t.port m =
          { state := .quarantined, faults := (s.port m).faults
            ingress :=
              { dataQueue := [], controlQueue := [], headPhase := .unrouted, headSlot := false,
                dataOutstanding := (s.port m).ingress.dataOutstanding,
                dataOwed := (s.port m).ingress.dataOwed + (s.port m).ingress.dataQueue.length,
                controlOutstanding := (s.port m).ingress.controlOutstanding,
                controlOwed :=
                  (s.port m).ingress.controlOwed + (s.port m).ingress.controlQueue.length }
            resp :=
              { reserved := [], filled := [], notices := [], advertised := 0, credits := 0,
                stallElapsed := 0, stallLimit := (s.limits m).stall }
            fence := { slot := none, postedFailures := 0 } } ∧
        (∀ a, a ≠ m → t.port a = (s.port a).notify (.masterQuarantined m)) ∧
        s.Flushed t m ∧ t.now = s.now)

/-- SEND_EVENT sends INGRESS_CREDIT when an owed count is above 0, else, in ACTIVE with a response credit
held, the oldest notice, else the oldest FILLED response; a notice or response spends one response credit
and sets the stall timer to zero with the stall limit held now (R50, R143 to R146, R148). Every notice frame,
response frame and result record has the bytes of sections 11.1 to 11.4; where these leave a byte open the
model's readings and free values are those of logs 6, 7, 8, 9, 17 and 25. -/
def Obligations.SendEventSendsTheFirstPresent : Prop :=
  (EncodingsAreThoseOf11_1 ∧ NoticesAreLaidOut ∧ ResponsesAreLaidOut ∧ StatusRecordsAreLaidOut ∧
    ListedRecordsArePacked) ∧
  ∀ (m : Master) (s : State), s.pwronN = true →
    let g := (s.port m).ingress
    let r := (s.port m).resp
    let out (u : State) (bytes : List Byte) : State :=
      { u with masterOut := u.masterOut.set m (u.masterOut[m] ++ [.frame bytes]) }
    let spent (notices : List Notice) (filled : List Response) : State :=
      s.modResp m fun r => { r with notices := notices, filled := filled, credits := r.credits - 1,
                                    stallElapsed := 0, stallLimit := (s.limits m).stall }
    ((s.port m).state ≠ .offline → 0 < g.dataOwed ∨ 0 < g.controlOwed →
      exec (.sendEvent m) s = .next (out
        (s.modIngress m fun g =>
          { g with dataOutstanding := g.dataOutstanding + g.dataOwed, dataOwed := 0,
                   controlOutstanding := g.controlOutstanding + g.controlOwed, controlOwed := 0 })
        [0xA0, BitVec.ofNat 8 g.dataOwed, BitVec.ofNat 8 g.controlOwed])) ∧
    ((s.port m).state = .active → g.dataOwed = 0 → g.controlOwed = 0 → 0 < r.credits →
      (∀ n l, r.notices = n :: l → exec (.sendEvent m) s = .next (out (spent l r.filled) n.bytes)) ∧
      (∀ x l, r.notices = [] → r.filled = x :: l →
        exec (.sendEvent m) s = .next (out (spent [] l) x.bytes))) ∧
    ((s.port m).state = .offline ∨
      (g.dataOwed = 0 ∧ g.controlOwed = 0 ∧
        ((s.port m).state ≠ .active ∨ r.credits = 0 ∨ (r.notices = [] ∧ r.filled = []))) →
      exec (.sendEvent m) s = .next s)

/-! ## The laws -/

/-- Every law below holds right after power-on, whatever the straps, and so at reset. -/
def Obligations.LawsHoldAtPowerOn : Prop :=
  ∀ (straps : Straps) (s : State), s = State.powerOn straps ∨ s = State.reset →
    s.IngressLaw ∧ s.SlotLaw ∧ s.PromiseLaw ∧ s.NoticeLaw ∧ s.ResponseCreditLaw ∧ s.TargetCreditLaw ∧
    s.OverlapLaw ∧ s.HolderLaw ∧ s.SettingsLaw ∧ s.RoutingLaw ∧ s.CountLaw ∧ s.HeldLaw ∧ s.PoolLaw ∧
    s.LaneLaw ∧ s.TagLaw ∧ s.HeadLaw ∧ s.SaturationLaw

/-- Every step keeps the ingress credit law of R50, and with it the head law of R54: after every event a READ
or WRITE head has been routed, unless it waits for the end of HOLDING. -/
def Obligations.EveryStepKeepsIngressCreditsAndRoutedHeads : Prop :=
  (∀ s t : State, s.IngressLaw → step s = .next t → t.IngressLaw) ∧
  (∀ s t : State, s.IngressLaw → s.HeadLaw → step s = .next t → t.HeadLaw)

/-- Every step keeps the completion slot law of R135 and the promises of slots (R65, R89, R169). -/
def Obligations.EveryStepKeepsCompletionSlots : Prop :=
  ∀ s t : State, s.SlotLaw → s.PromiseLaw → step s = .next t → t.SlotLaw ∧ t.PromiseLaw

/-- A notice handed to a port that is not ACTIVE leaves nothing. Handed to an ACTIVE port it is counted in
the youngest record if that is OVERFLOW, saturating at 65,535; else it is stored as the youngest while fewer
than 7 records are held; else an OVERFLOW record with count 1 is stored in its place (R139, R140). Every step
keeps the notice queue law of R139 and R140, the response credit law of R141 and the ranges of the
saturating counts (R51, R115, R152). -/
def Obligations.EveryStepKeepsNoticesAndCounts : Prop :=
  (∀ (p : MasterPort) (n : Notice),
    let holds (q : List Notice) : Prop := p.notify n = { p with resp := { p.resp with notices := q } }
    (p.state ≠ .active → p.notify n = p) ∧
    (p.state = .active →
      (∀ older k, p.resp.notices = older ++ [.overflow k] →
        holds (older ++ [.overflow (min (k + 1) 65535)])) ∧
      ((∀ older k, p.resp.notices ≠ older ++ [.overflow k]) →
        (p.resp.notices.length < 7 → holds (p.resp.notices ++ [n])) ∧
        (7 ≤ p.resp.notices.length → holds (p.resp.notices ++ [.overflow 1]))))) ∧
  (∀ s t : State, s.NoticeLaw → step s = .next t → t.NoticeLaw) ∧
  (∀ s t : State, s.ResponseCreditLaw → step s = .next t → t.ResponseCreditLaw) ∧
  (∀ s t : State, s.SaturationLaw → step s = .next t → t.SaturationLaw)

/-- Every step keeps the target credit law of R122. -/
def Obligations.EveryStepKeepsTargetCredits : Prop :=
  ∀ s t : State, s.TargetCreditLaw → step s = .next t → t.TargetCreditLaw

/-- Every step keeps the overlap law of R13. -/
def Obligations.EveryStepKeepsTheLivePlaneFreeOfOverlap : Prop :=
  ∀ s t : State, s.OverlapLaw → step s = .next t → t.OverlapLaw

/-- Every step keeps the holder an admin master and the settings in their ranges (R23, R177). -/
def Obligations.EveryStepKeepsHolderAndSettings : Prop :=
  (∀ s t : State, s.HolderLaw → step s = .next t → t.HolderLaw) ∧
  (∀ s t : State, s.SettingsLaw → step s = .next t → t.SettingsLaw)

/-- Every step keeps the count law of R39. -/
def Obligations.EveryStepKeepsPlaneCounts : Prop :=
  ∀ s t : State, s.RoutingLaw → s.CountLaw → step s = .next t → t.RoutingLaw ∧ t.CountLaw

/-- Every step keeps the held counts of R91, the Data Pool law of R92 and the lane law of R96 and R100. -/
def Obligations.EveryStepKeepsTableAndLanes : Prop :=
  (∀ s t : State, s.HeldLaw → step s = .next t → t.HeldLaw) ∧
  (∀ s t : State, s.PoolLaw → step s = .next t → t.PoolLaw) ∧
  (∀ s t : State, s.LaneLaw → step s = .next t → t.LaneLaw)

/-- Every step keeps the tag law of R56. -/
def Obligations.EveryStepKeepsTagsDistinct : Prop :=
  ∀ s t : State, s.TagLaw → step s = .next t → t.TagLaw

/-- While an entry is in flight no step changes the window it was admitted through: every read of it by
(plane, window index) returns the values it was admitted with (R17). -/
def Obligations.WindowInFlightIsUnchanged : Prop :=
  ∀ (s t : State) (i : OrtIndex) (u : OrtUse), s.CountLaw → (s.entry i).use = some u →
    u.phase.counted = true → step s = .next t → (t.entry i).use ≠ none →
    t.window u.plane u.window = s.window u.plane u.window

/-- The live plane is read and not written: a step but POWER_ON and PWRON_N_LOW either keeps the generation
and the live plane, or advances the generation by one and makes the other plane live as it stood (R1, R2,
R31). -/
def Obligations.LivePlaneChangesOnlyAsAWhole : Prop :=
  ∀ s t : State, (∀ mp tp ad bz, s.pending.head? ≠ some (.powerOn mp tp ad bz)) →
    s.pending.head? ≠ some .pwronLow → step s = .next t →
    (t.generation = s.generation ∧ t.planes[t.live] = s.planes[s.live]) ∨
    (t.generation = s.generation + 1 ∧ t.live = s.other ∧ t.planes[t.live] = s.planes[s.other])

/-- The frame of every well-formed packet toward the part decodes to that packet, on a master link and on a
target link (11.1 to 11.3). -/
def Obligations.FramesDecodeToTheirPackets : Prop :=
  (∀ (c : Instr) (m : Master) (frame : List Byte), c.wf = true → c.masterPort? = some m →
    encodeMasterFrame c = some frame → decodeMasterFrame m frame = c) ∧
  (∀ (c : Instr) (frame : List Byte), c.wf = true → encodeTargetFrame c = some frame →
    ∃ t, decodeTargetFrame t frame = c)

end
end

