-- ==== Sys2Proof/Laws/Bytes.lean ====
section
/-! SUPPORT. Little-endian fields, tags and frames: what is read back from what was written. -/

namespace Sys2Proof

theorem leBytes_length (k n : Nat) : (leBytes k n).length = k := by
  induction k generalizing n with
  | zero => rfl
  | succ k ih => simp [leBytes, ih]

/-- The number that its own little-endian bytes hold (11.1). -/
theorem leNat_leBytes (k n : Nat) : leNat (leBytes k n) = n % 256 ^ k := by
  induction k generalizing n with
  | zero => simp [leBytes, leNat, Nat.mod_one]
  | succ k ih =>
    simp only [leBytes, leNat, ih]
    rw [BitVec.toNat_ofNat, Nat.pow_succ' (m := 256), Nat.mod_mul (x := n) (a := 256)]

theorem leNat_lt (l : List Byte) : leNat l < 256 ^ l.length := by
  induction l with
  | nil => simp [leNat]
  | cons b bs ih =>
    simp only [leNat, List.length_cons, Nat.pow_succ']
    have := b.isLt
    omega

theorem leField_lt (r : List Byte) (i k : Nat) : leField r i k < 256 ^ k :=
  lt_of_lt_of_le (leNat_lt _) (Nat.pow_le_pow_right (by decide) (by simp))

/-- A field read at the place where it was written. -/
theorem leField_leBytes (pre d : List Byte) (k n i : Nat) (hi : pre.length = i) (h : n < 256 ^ k) :
    leField (pre ++ leBytes k n ++ d) i k = n := by
  have : (pre ++ leBytes k n ++ d).drop i = leBytes k n ++ d := by
    rw [List.append_assoc, List.drop_append_of_le_length (by omega),
      List.drop_of_length_le (by omega)]
    rfl
  rw [leField, this, List.take_append_of_le_length (by rw [leBytes_length]),
    List.take_of_length_le (by rw [leBytes_length]), leNat_leBytes, Nat.mod_eq_of_lt h]

@[simp] theorem tagOf_tagByte (t : Tag) : tagOf (tagByte t) = t := by
  simp only [tagOf, tagByte]
  apply BitVec.eq_of_toNat_eq
  simp

@[simp] theorem targetTagIndex_targetTag (i : OrtIndex) (r : BitVec 2) :
    targetTagIndex (targetTag i r) = i := by
  apply Fin.ext
  have := r.isLt
  have := i.isLt
  simp only [targetTagIndex, targetTag, BitVec.toNat_ofNat]
  omega

@[simp] theorem targetTagReuse_targetTag (i : OrtIndex) (r : BitVec 2) :
    targetTagReuse (targetTag i r) = r := by
  apply BitVec.eq_of_toNat_eq
  have := r.isLt
  have := i.isLt
  simp only [targetTagReuse, targetTag, BitVec.toNat_setWidth, BitVec.toNat_ofNat]
  omega

/-! ### Decoding by kind code -/

theorem decodeMasterFrame_read (m : Master) (tag : Byte) (rest : List Byte) (h : rest.length = 10) :
    decodeMasterFrame m (0x01#8 :: tag :: rest) =
      .read m (tagOf tag) (BitVec.ofNat 16 (leField rest 0 2)) (BitVec.ofNat 48 (leField rest 2 6)) := by
  unfold decodeMasterFrame
  exact if_pos h

theorem decodeMasterFrame_write (m : Master) (tag : Byte) (rest : List Byte)
    (h : 10 ≤ rest.length ∧ writeDataFits (BitVec.ofNat 16 (leField rest 0 2)) (rest.drop 10)) :
    decodeMasterFrame m (0x02#8 :: tag :: rest) =
      .write m (tagOf tag) (BitVec.ofNat 16 (leField rest 0 2)) (BitVec.ofNat 48 (leField rest 2 6))
        (rest.drop 10) := by
  unfold decodeMasterFrame
  exact if_pos h

theorem decodeMasterFrame_fence (m : Master) (tag a b : Byte) :
    decodeMasterFrame m [0x03#8, tag, a, b] = .fence m (tagOf tag) := rfl

theorem decodeMasterFrame_control (m : Master) (tag op n : Byte) (args : List Byte)
    (h : args.length = n.toNat) :
    decodeMasterFrame m (0x04#8 :: tag :: op :: n :: args) = .control m (tagOf tag) op args := by
  unfold decodeMasterFrame
  exact if_pos h

theorem decodeTargetFrame_complete (t : Target) (tag status z lo hi : Byte) (data : List Byte)
    (h : leNat [lo, hi] ≤ 256 ∧ data.length = leNat [lo, hi]) :
    decodeTargetFrame t (0x22#8 :: tag :: status :: z :: lo :: hi :: data) =
      .tComplete t tag status data := by
  unfold decodeTargetFrame
  exact if_pos h

namespace Machine

/-- The bytes of a number, in closed form (11.1). -/
theorem leBytes_eq (k n : Nat) : leBytes k n = littleEndian k n := by
  induction k generalizing n with
  | zero => rfl
  | succ k ih =>
    simp only [leBytes, ih, littleEndian, List.ofFn_succ, Fin.val_zero, pow_zero, Nat.div_one,
      Fin.val_succ, Nat.div_div_eq_div_mul, Nat.pow_succ']

/-! ### Single arguments -/

theorem byteBelow_none {n : Nat} {b : Byte} (h : n ≤ b.toNat) : byteBelow n b = none := by
  simp [byteBelow, Nat.not_lt.mpr h]

theorem byteBelow_some {n : Nat} {b : Byte} {i : Fin n} (h : i.val = b.toNat) :
    byteBelow n b = some i := by
  have : b.toNat < n := h ▸ i.isLt
  simp [byteBelow, this, Fin.ext_iff, h]

theorem modeOf_immediate {b : Byte} (h : b.toNat = 0) : modeOf b = some .immediate := by
  simp [modeOf, h]

theorem modeOf_quiesced {b : Byte} (h : b.toNat = 1) : modeOf b = some .quiesced := by
  simp [modeOf, h]

theorem modeOf_none {b : Byte} (h : 1 < b.toNat) : modeOf b = none := by
  simp only [modeOf]
  split <;> first | omega | rfl

theorem classOf_none (b : Byte) : classOf b = none ↔ 2 < b.toNat := by
  simp only [classOf]
  split <;> simp_all
  omega

theorem sizeOk_iff (e : Bool) (k : Nat) :
    sizeOk e k = true ↔ ((12 ≤ k ∧ k ≤ 40) ∨ (e = false ∧ k = 0)) := by
  simp [sizeOk]

end Machine
end Sys2Proof
end

