-- ==== Sys2Proof/Laws/State.lean ====
section
/-! SUPPORT. What each plain update of State leaves: one lemma for each update and each field it does not
write, and what each accessor reads after it. -/

namespace Sys2Proof.Machine

/-! ### Reading after an update -/

@[simp] theorem State.port_setPort (s : State) (m a : Master) (p : MasterPort) :
    (s.setPort m p).port a = if a = m then p else s.port a := by
  simp only [State.port, State.setPort, Fin.getElem_fin, Vector.getElem_set, Fin.ext_iff, eq_comm]

@[simp] theorem State.port_modPort (s : State) (m a : Master) (f : MasterPort → MasterPort) :
    (s.modPort m f).port a = if a = m then f (s.port m) else s.port a := by
  simp [State.modPort]

@[simp] theorem State.port_mapPorts (s : State) (f : Master → MasterPort → MasterPort) (a : Master) :
    (s.mapPorts f).port a = f a (s.port a) := by
  simp [State.mapPorts, State.port]

/-- A port depends on the master ports alone. -/
theorem State.port_congr {s t : State} (h : s.masters = t.masters) (a : Master) :
    s.port a = t.port a := by
  simp [State.port, h]

/-- A target port depends on the target ports alone. -/
theorem State.target_congr {s t : State} (h : s.targets = t.targets) (a : Target) :
    s.target a = t.target a := by
  simp [State.target, h]

/-- An ORT entry depends on the ORT alone. -/
theorem State.entry_congr {s t : State} (h : s.ort = t.ort) (i : OrtIndex) :
    s.entry i = t.entry i := by
  simp [State.entry, h]

/-- A lane depends on the lanes alone. -/
theorem State.lane_congr {s t : State} (h : s.lanes = t.lanes) (a : Target) (m : Master) :
    s.lane a m = t.lane a m := by
  simp [State.lane, h]

@[simp] theorem State.target_setTarget (s : State) (t a : Target) (p : TargetPort) :
    (s.setTarget t p).target a = if a = t then p else s.target a := by
  simp only [State.target, State.setTarget, Fin.getElem_fin, Vector.getElem_set, Fin.ext_iff, eq_comm]

@[simp] theorem State.target_modTarget (s : State) (t a : Target) (f : TargetPort → TargetPort) :
    (s.modTarget t f).target a = if a = t then f (s.target t) else s.target a := by
  simp [State.modTarget]

@[simp] theorem State.entry_setUse (s : State) (i j : OrtIndex) (u : Option OrtUse) :
    (s.setUse i u).entry j = if j = i then { s.entry i with use := u } else s.entry j := by
  simp only [State.entry, State.setUse, Fin.getElem_fin, Vector.getElem_set, Fin.ext_iff, eq_comm]

@[simp] theorem State.lane_setLane (s : State) (t a : Target) (m b : Master) (l : List OrtIndex) :
    (s.setLane t m l).lane a b = if a = t ∧ b = m then l else s.lane a b := by
  by_cases h : a = t
  · subst h
    by_cases h2 : b = m
    · subst h2; simp [State.lane, State.setLane]
    · have h3 : ¬ m.val = b.val := fun e => h2 (Fin.ext e.symm)
      simp [State.lane, State.setLane, h2, Vector.getElem_set_ne _ _ h3]
  · have h3 : ¬ t.val = a.val := fun e => h (Fin.ext e.symm)
    simp [State.lane, State.setLane, h, Vector.getElem_set_ne _ _ h3]

/-- Writing back the port that stands there changes nothing. -/
@[simp] theorem State.setPort_self (s : State) (m : Master) : s.setPort m (s.port m) = s := by
  simp [State.setPort, State.port]

/-- Writing a port twice keeps the second value. -/
@[simp] theorem State.setPort_setPort (s : State) (m : Master) (p q : MasterPort) :
    (s.setPort m p).setPort m q = s.setPort m q := by
  simp [State.setPort]

/-- The decrements of a plane after one is sent. -/
theorem State.sendDecrement_decrements (s : State) (p a : PlaneId) :
    (s.sendDecrement p).decrements[a] = if a = p then s.decrements[p] + 1 else s.decrements[a] := by
  simp only [State.sendDecrement, Fin.getElem_fin, Vector.getElem_set, Fin.ext_iff, eq_comm]

/-- The reference counts after one is set. -/
theorem State.setCount_refCounts (s : State) (p a : PlaneId) (n : Nat) :
    (s.setCount p n).refCounts[a] = if a = p then n else s.refCounts[a] := by
  simp only [State.setCount, Fin.getElem_fin, Vector.getElem_set, Fin.ext_iff, eq_comm]

/-- The held counts after one is set. -/
theorem State.setHeld_held (s : State) (m a : Master) (n : Nat) :
    (s.setHeld m n).held[a] = if a = m then n else s.held[a] := by
  simp only [State.setHeld, Fin.getElem_fin, Vector.getElem_set, Fin.ext_iff, eq_comm]

/-! ### Taking an event -/

/-- A powered part takes the event. -/
@[simp] theorem takeEvent_on {s : State} (h : s.pwronN = true) (f : State → State) :
    takeEvent s f = .next (f s) := by
  simp [takeEvent, h]

/-- While PWRON_N is low the part takes no event (R193). -/
@[simp] theorem takeEvent_off {s : State} (h : s.pwronN = false) (f : State → State) :
    takeEvent s f = .next s := by
  simp [takeEvent, h]

/-- Taking an event answers a next state: the event's, or the same state with PWRON_N low. -/
theorem takeEvent_cases {s t : State} {f : State → State} (h : takeEvent s f = .next t) :
    (s.pwronN = true ∧ t = f s) ∨ (s.pwronN = false ∧ t = s) := by
  cases hp : s.pwronN <;> simp [takeEvent, hp] at h <;> simp [h]

/-! ### Slots and notices -/

/-- A fill turns a RESERVED slot into a FILLED one, or is dropped (R137). -/
@[simp] theorem ResponseUnit.slotsInUse_fill (r : ResponseUnit) (h : SlotHolder) (x : Response) :
    (r.fill h x).slotsInUse = r.slotsInUse := by
  unfold ResponseUnit.fill
  split
  · rename_i hm
    have := List.length_erase_of_mem hm
    have := List.length_pos_of_mem hm
    simp [ResponseUnit.slotsInUse]
    omega
  · rfl

/-- Passing a RESERVED slot keeps the number of slots in use (R136). -/
@[simp] theorem ResponseUnit.slotsInUse_pass (r : ResponseUnit) (a b : SlotHolder) :
    (r.pass a b).slotsInUse = r.slotsInUse := by
  unfold ResponseUnit.pass
  split
  · rename_i hm
    have := List.length_erase_of_mem hm
    have := List.length_pos_of_mem hm
    simp [ResponseUnit.slotsInUse]
    omega
  · rfl

@[simp] theorem ResponseUnit.slotsInUse_reserve (r : ResponseUnit) (h : SlotHolder) :
    (r.reserve h).slotsInUse = r.slotsInUse + 1 := by
  simp [ResponseUnit.reserve, ResponseUnit.slotsInUse]
  omega

@[simp] theorem ResponseUnit.slotsInUse_fillFree (r : ResponseUnit) (x : Response) :
    (r.fillFree x).slotsInUse = r.slotsInUse + 1 := by
  simp [ResponseUnit.fillFree, ResponseUnit.slotsInUse]
  omega

/-- A notice handed to a port leaves all of it but the notice queue. -/
@[simp] theorem MasterPort.notify_state (p : MasterPort) (n : Notice) : (p.notify n).state = p.state := by
  unfold MasterPort.notify; split <;> rfl

@[simp] theorem MasterPort.notify_faults (p : MasterPort) (n : Notice) :
    (p.notify n).faults = p.faults := by
  unfold MasterPort.notify; split <;> rfl

@[simp] theorem MasterPort.notify_ingress (p : MasterPort) (n : Notice) :
    (p.notify n).ingress = p.ingress := by
  unfold MasterPort.notify; split <;> rfl

@[simp] theorem MasterPort.notify_fence (p : MasterPort) (n : Notice) :
    (p.notify n).fence = p.fence := by
  unfold MasterPort.notify; split <;> rfl

/-- What a notice does to a Response Unit (R140). -/
theorem MasterPort.notify_resp (p : MasterPort) (n : Notice) :
    (p.notify n).resp =
      if p.state = .active then { p.resp with notices := pushNotice p.resp.notices n } else p.resp := by
  unfold MasterPort.notify
  by_cases h : p.state = .active <;> simp [h]

/-! ### The passing of time -/

/-- The stall timer of a port runs while it is ACTIVE with something waiting and no response credit held
(R148). -/
theorem MasterPort.stallRuns_iff (p : MasterPort) : p.stallRuns = true ↔
    p.state = .active ∧ p.resp.credits = 0 ∧ (p.resp.notices ≠ [] ∨ p.resp.filled ≠ []) := by
  simp only [MasterPort.stallRuns, ResponseUnit.hasWaiting, Bool.and_eq_true, beq_iff_eq, Bool.or_eq_true,
    Bool.not_eq_true', List.isEmpty_eq_false_iff, and_assoc]
  exact and_congr Iff.rfl and_comm

/-- When time passes, the stall timer of a port rises by it if it runs, and nothing else of the port
changes (R148). -/
theorem State.port_passTime (s : State) (d : Nat) (m : Master) :
    (s.passTime d).port m =
      { s.port m with resp := { (s.port m).resp with stallElapsed :=
          if (s.port m).stallRuns then (s.port m).resp.stallElapsed + d
          else (s.port m).resp.stallElapsed } } := by
  rw [State.passTime, State.port_mapPorts]
  change (if (s.port m).stallRuns = true then _ else s.port m) = _
  by_cases h : (s.port m).stallRuns = true
  · rw [if_pos h, if_pos h]; rfl
  · rw [if_neg h, if_neg h]

/-! ### One lemma for each field -/

/-! ### setPort -/
@[simp] theorem State.setPort_pwronN (s : State) (m : Master) (p : MasterPort) :
    (s.setPort m p).pwronN = s.pwronN := rfl
@[simp] theorem State.setPort_straps (s : State) (m : Master) (p : MasterPort) :
    (s.setPort m p).straps = s.straps := rfl
@[simp] theorem State.setPort_now (s : State) (m : Master) (p : MasterPort) :
    (s.setPort m p).now = s.now := rfl
@[simp] theorem State.setPort_planes (s : State) (m : Master) (p : MasterPort) :
    (s.setPort m p).planes = s.planes := rfl
@[simp] theorem State.setPort_generation (s : State) (m : Master) (p : MasterPort) :
    (s.setPort m p).generation = s.generation := rfl
@[simp] theorem State.setPort_planeState (s : State) (m : Master) (p : MasterPort) :
    (s.setPort m p).planeState = s.planeState := rfl
@[simp] theorem State.setPort_refCounts (s : State) (m : Master) (p : MasterPort) :
    (s.setPort m p).refCounts = s.refCounts := rfl
@[simp] theorem State.setPort_decrements (s : State) (m : Master) (p : MasterPort) :
    (s.setPort m p).decrements = s.decrements := rfl
@[simp] theorem State.setPort_flushReports (s : State) (m : Master) (p : MasterPort) :
    (s.setPort m p).flushReports = s.flushReports := rfl
@[simp] theorem State.setPort_announcements (s : State) (m : Master) (p : MasterPort) :
    (s.setPort m p).announcements = s.announcements := rfl
@[simp] theorem State.setPort_control (s : State) (m : Master) (p : MasterPort) :
    (s.setPort m p).control = s.control := rfl
@[simp] theorem State.setPort_ort (s : State) (m : Master) (p : MasterPort) :
    (s.setPort m p).ort = s.ort := rfl
@[simp] theorem State.setPort_held (s : State) (m : Master) (p : MasterPort) :
    (s.setPort m p).held = s.held := rfl
@[simp] theorem State.setPort_freeBlocks (s : State) (m : Master) (p : MasterPort) :
    (s.setPort m p).freeBlocks = s.freeBlocks := rfl
@[simp] theorem State.setPort_lanes (s : State) (m : Master) (p : MasterPort) :
    (s.setPort m p).lanes = s.lanes := rfl
@[simp] theorem State.setPort_targets (s : State) (m : Master) (p : MasterPort) :
    (s.setPort m p).targets = s.targets := rfl
@[simp] theorem State.setPort_masterOut (s : State) (m : Master) (p : MasterPort) :
    (s.setPort m p).masterOut = s.masterOut := rfl
@[simp] theorem State.setPort_targetOut (s : State) (m : Master) (p : MasterPort) :
    (s.setPort m p).targetOut = s.targetOut := rfl
@[simp] theorem State.setPort_choices (s : State) (m : Master) (p : MasterPort) :
    (s.setPort m p).choices = s.choices := rfl
@[simp] theorem State.setPort_pending (s : State) (m : Master) (p : MasterPort) :
    (s.setPort m p).pending = s.pending := rfl

/-! ### modPort -/
@[simp] theorem State.modPort_pwronN (s : State) (m : Master) (f : MasterPort → MasterPort) :
    (s.modPort m f).pwronN = s.pwronN := rfl
@[simp] theorem State.modPort_straps (s : State) (m : Master) (f : MasterPort → MasterPort) :
    (s.modPort m f).straps = s.straps := rfl
@[simp] theorem State.modPort_now (s : State) (m : Master) (f : MasterPort → MasterPort) :
    (s.modPort m f).now = s.now := rfl
@[simp] theorem State.modPort_planes (s : State) (m : Master) (f : MasterPort → MasterPort) :
    (s.modPort m f).planes = s.planes := rfl
@[simp] theorem State.modPort_generation (s : State) (m : Master) (f : MasterPort → MasterPort) :
    (s.modPort m f).generation = s.generation := rfl
@[simp] theorem State.modPort_planeState (s : State) (m : Master) (f : MasterPort → MasterPort) :
    (s.modPort m f).planeState = s.planeState := rfl
@[simp] theorem State.modPort_refCounts (s : State) (m : Master) (f : MasterPort → MasterPort) :
    (s.modPort m f).refCounts = s.refCounts := rfl
@[simp] theorem State.modPort_decrements (s : State) (m : Master) (f : MasterPort → MasterPort) :
    (s.modPort m f).decrements = s.decrements := rfl
@[simp] theorem State.modPort_flushReports (s : State) (m : Master) (f : MasterPort → MasterPort) :
    (s.modPort m f).flushReports = s.flushReports := rfl
@[simp] theorem State.modPort_announcements (s : State) (m : Master) (f : MasterPort → MasterPort) :
    (s.modPort m f).announcements = s.announcements := rfl
@[simp] theorem State.modPort_control (s : State) (m : Master) (f : MasterPort → MasterPort) :
    (s.modPort m f).control = s.control := rfl
@[simp] theorem State.modPort_ort (s : State) (m : Master) (f : MasterPort → MasterPort) :
    (s.modPort m f).ort = s.ort := rfl
@[simp] theorem State.modPort_held (s : State) (m : Master) (f : MasterPort → MasterPort) :
    (s.modPort m f).held = s.held := rfl
@[simp] theorem State.modPort_freeBlocks (s : State) (m : Master) (f : MasterPort → MasterPort) :
    (s.modPort m f).freeBlocks = s.freeBlocks := rfl
@[simp] theorem State.modPort_lanes (s : State) (m : Master) (f : MasterPort → MasterPort) :
    (s.modPort m f).lanes = s.lanes := rfl
@[simp] theorem State.modPort_targets (s : State) (m : Master) (f : MasterPort → MasterPort) :
    (s.modPort m f).targets = s.targets := rfl
@[simp] theorem State.modPort_masterOut (s : State) (m : Master) (f : MasterPort → MasterPort) :
    (s.modPort m f).masterOut = s.masterOut := rfl
@[simp] theorem State.modPort_targetOut (s : State) (m : Master) (f : MasterPort → MasterPort) :
    (s.modPort m f).targetOut = s.targetOut := rfl
@[simp] theorem State.modPort_choices (s : State) (m : Master) (f : MasterPort → MasterPort) :
    (s.modPort m f).choices = s.choices := rfl
@[simp] theorem State.modPort_pending (s : State) (m : Master) (f : MasterPort → MasterPort) :
    (s.modPort m f).pending = s.pending := rfl

/-! ### mapPorts -/
@[simp] theorem State.mapPorts_pwronN (s : State) (f : Master → MasterPort → MasterPort) :
    (s.mapPorts f).pwronN = s.pwronN := rfl
@[simp] theorem State.mapPorts_straps (s : State) (f : Master → MasterPort → MasterPort) :
    (s.mapPorts f).straps = s.straps := rfl
@[simp] theorem State.mapPorts_now (s : State) (f : Master → MasterPort → MasterPort) :
    (s.mapPorts f).now = s.now := rfl
@[simp] theorem State.mapPorts_planes (s : State) (f : Master → MasterPort → MasterPort) :
    (s.mapPorts f).planes = s.planes := rfl
@[simp] theorem State.mapPorts_generation (s : State) (f : Master → MasterPort → MasterPort) :
    (s.mapPorts f).generation = s.generation := rfl
@[simp] theorem State.mapPorts_planeState (s : State) (f : Master → MasterPort → MasterPort) :
    (s.mapPorts f).planeState = s.planeState := rfl
@[simp] theorem State.mapPorts_refCounts (s : State) (f : Master → MasterPort → MasterPort) :
    (s.mapPorts f).refCounts = s.refCounts := rfl
@[simp] theorem State.mapPorts_decrements (s : State) (f : Master → MasterPort → MasterPort) :
    (s.mapPorts f).decrements = s.decrements := rfl
@[simp] theorem State.mapPorts_flushReports (s : State) (f : Master → MasterPort → MasterPort) :
    (s.mapPorts f).flushReports = s.flushReports := rfl
@[simp] theorem State.mapPorts_announcements (s : State) (f : Master → MasterPort → MasterPort) :
    (s.mapPorts f).announcements = s.announcements := rfl
@[simp] theorem State.mapPorts_control (s : State) (f : Master → MasterPort → MasterPort) :
    (s.mapPorts f).control = s.control := rfl
@[simp] theorem State.mapPorts_ort (s : State) (f : Master → MasterPort → MasterPort) :
    (s.mapPorts f).ort = s.ort := rfl
@[simp] theorem State.mapPorts_held (s : State) (f : Master → MasterPort → MasterPort) :
    (s.mapPorts f).held = s.held := rfl
@[simp] theorem State.mapPorts_freeBlocks (s : State) (f : Master → MasterPort → MasterPort) :
    (s.mapPorts f).freeBlocks = s.freeBlocks := rfl
@[simp] theorem State.mapPorts_lanes (s : State) (f : Master → MasterPort → MasterPort) :
    (s.mapPorts f).lanes = s.lanes := rfl
@[simp] theorem State.mapPorts_targets (s : State) (f : Master → MasterPort → MasterPort) :
    (s.mapPorts f).targets = s.targets := rfl
@[simp] theorem State.mapPorts_masterOut (s : State) (f : Master → MasterPort → MasterPort) :
    (s.mapPorts f).masterOut = s.masterOut := rfl
@[simp] theorem State.mapPorts_targetOut (s : State) (f : Master → MasterPort → MasterPort) :
    (s.mapPorts f).targetOut = s.targetOut := rfl
@[simp] theorem State.mapPorts_choices (s : State) (f : Master → MasterPort → MasterPort) :
    (s.mapPorts f).choices = s.choices := rfl
@[simp] theorem State.mapPorts_pending (s : State) (f : Master → MasterPort → MasterPort) :
    (s.mapPorts f).pending = s.pending := rfl

/-! ### modIngress -/
@[simp] theorem State.modIngress_pwronN (s : State) (m : Master) (f : Ingress → Ingress) :
    (s.modIngress m f).pwronN = s.pwronN := rfl
@[simp] theorem State.modIngress_straps (s : State) (m : Master) (f : Ingress → Ingress) :
    (s.modIngress m f).straps = s.straps := rfl
@[simp] theorem State.modIngress_now (s : State) (m : Master) (f : Ingress → Ingress) :
    (s.modIngress m f).now = s.now := rfl
@[simp] theorem State.modIngress_planes (s : State) (m : Master) (f : Ingress → Ingress) :
    (s.modIngress m f).planes = s.planes := rfl
@[simp] theorem State.modIngress_generation (s : State) (m : Master) (f : Ingress → Ingress) :
    (s.modIngress m f).generation = s.generation := rfl
@[simp] theorem State.modIngress_planeState (s : State) (m : Master) (f : Ingress → Ingress) :
    (s.modIngress m f).planeState = s.planeState := rfl
@[simp] theorem State.modIngress_refCounts (s : State) (m : Master) (f : Ingress → Ingress) :
    (s.modIngress m f).refCounts = s.refCounts := rfl
@[simp] theorem State.modIngress_decrements (s : State) (m : Master) (f : Ingress → Ingress) :
    (s.modIngress m f).decrements = s.decrements := rfl
@[simp] theorem State.modIngress_flushReports (s : State) (m : Master) (f : Ingress → Ingress) :
    (s.modIngress m f).flushReports = s.flushReports := rfl
@[simp] theorem State.modIngress_announcements (s : State) (m : Master) (f : Ingress → Ingress) :
    (s.modIngress m f).announcements = s.announcements := rfl
@[simp] theorem State.modIngress_control (s : State) (m : Master) (f : Ingress → Ingress) :
    (s.modIngress m f).control = s.control := rfl
@[simp] theorem State.modIngress_ort (s : State) (m : Master) (f : Ingress → Ingress) :
    (s.modIngress m f).ort = s.ort := rfl
@[simp] theorem State.modIngress_held (s : State) (m : Master) (f : Ingress → Ingress) :
    (s.modIngress m f).held = s.held := rfl
@[simp] theorem State.modIngress_freeBlocks (s : State) (m : Master) (f : Ingress → Ingress) :
    (s.modIngress m f).freeBlocks = s.freeBlocks := rfl
@[simp] theorem State.modIngress_lanes (s : State) (m : Master) (f : Ingress → Ingress) :
    (s.modIngress m f).lanes = s.lanes := rfl
@[simp] theorem State.modIngress_targets (s : State) (m : Master) (f : Ingress → Ingress) :
    (s.modIngress m f).targets = s.targets := rfl
@[simp] theorem State.modIngress_masterOut (s : State) (m : Master) (f : Ingress → Ingress) :
    (s.modIngress m f).masterOut = s.masterOut := rfl
@[simp] theorem State.modIngress_targetOut (s : State) (m : Master) (f : Ingress → Ingress) :
    (s.modIngress m f).targetOut = s.targetOut := rfl
@[simp] theorem State.modIngress_choices (s : State) (m : Master) (f : Ingress → Ingress) :
    (s.modIngress m f).choices = s.choices := rfl
@[simp] theorem State.modIngress_pending (s : State) (m : Master) (f : Ingress → Ingress) :
    (s.modIngress m f).pending = s.pending := rfl

/-! ### modResp -/
@[simp] theorem State.modResp_pwronN (s : State) (m : Master) (f : ResponseUnit → ResponseUnit) :
    (s.modResp m f).pwronN = s.pwronN := rfl
@[simp] theorem State.modResp_straps (s : State) (m : Master) (f : ResponseUnit → ResponseUnit) :
    (s.modResp m f).straps = s.straps := rfl
@[simp] theorem State.modResp_now (s : State) (m : Master) (f : ResponseUnit → ResponseUnit) :
    (s.modResp m f).now = s.now := rfl
@[simp] theorem State.modResp_planes (s : State) (m : Master) (f : ResponseUnit → ResponseUnit) :
    (s.modResp m f).planes = s.planes := rfl
@[simp] theorem State.modResp_generation (s : State) (m : Master) (f : ResponseUnit → ResponseUnit) :
    (s.modResp m f).generation = s.generation := rfl
@[simp] theorem State.modResp_planeState (s : State) (m : Master) (f : ResponseUnit → ResponseUnit) :
    (s.modResp m f).planeState = s.planeState := rfl
@[simp] theorem State.modResp_refCounts (s : State) (m : Master) (f : ResponseUnit → ResponseUnit) :
    (s.modResp m f).refCounts = s.refCounts := rfl
@[simp] theorem State.modResp_decrements (s : State) (m : Master) (f : ResponseUnit → ResponseUnit) :
    (s.modResp m f).decrements = s.decrements := rfl
@[simp] theorem State.modResp_flushReports (s : State) (m : Master) (f : ResponseUnit → ResponseUnit) :
    (s.modResp m f).flushReports = s.flushReports := rfl
@[simp] theorem State.modResp_announcements (s : State) (m : Master) (f : ResponseUnit → ResponseUnit) :
    (s.modResp m f).announcements = s.announcements := rfl
@[simp] theorem State.modResp_control (s : State) (m : Master) (f : ResponseUnit → ResponseUnit) :
    (s.modResp m f).control = s.control := rfl
@[simp] theorem State.modResp_ort (s : State) (m : Master) (f : ResponseUnit → ResponseUnit) :
    (s.modResp m f).ort = s.ort := rfl
@[simp] theorem State.modResp_held (s : State) (m : Master) (f : ResponseUnit → ResponseUnit) :
    (s.modResp m f).held = s.held := rfl
@[simp] theorem State.modResp_freeBlocks (s : State) (m : Master) (f : ResponseUnit → ResponseUnit) :
    (s.modResp m f).freeBlocks = s.freeBlocks := rfl
@[simp] theorem State.modResp_lanes (s : State) (m : Master) (f : ResponseUnit → ResponseUnit) :
    (s.modResp m f).lanes = s.lanes := rfl
@[simp] theorem State.modResp_targets (s : State) (m : Master) (f : ResponseUnit → ResponseUnit) :
    (s.modResp m f).targets = s.targets := rfl
@[simp] theorem State.modResp_masterOut (s : State) (m : Master) (f : ResponseUnit → ResponseUnit) :
    (s.modResp m f).masterOut = s.masterOut := rfl
@[simp] theorem State.modResp_targetOut (s : State) (m : Master) (f : ResponseUnit → ResponseUnit) :
    (s.modResp m f).targetOut = s.targetOut := rfl
@[simp] theorem State.modResp_choices (s : State) (m : Master) (f : ResponseUnit → ResponseUnit) :
    (s.modResp m f).choices = s.choices := rfl
@[simp] theorem State.modResp_pending (s : State) (m : Master) (f : ResponseUnit → ResponseUnit) :
    (s.modResp m f).pending = s.pending := rfl

/-! ### setFence -/
@[simp] theorem State.setFence_pwronN (s : State) (m : Master) (f : FenceTracker) :
    (s.setFence m f).pwronN = s.pwronN := rfl
@[simp] theorem State.setFence_straps (s : State) (m : Master) (f : FenceTracker) :
    (s.setFence m f).straps = s.straps := rfl
@[simp] theorem State.setFence_now (s : State) (m : Master) (f : FenceTracker) :
    (s.setFence m f).now = s.now := rfl
@[simp] theorem State.setFence_planes (s : State) (m : Master) (f : FenceTracker) :
    (s.setFence m f).planes = s.planes := rfl
@[simp] theorem State.setFence_generation (s : State) (m : Master) (f : FenceTracker) :
    (s.setFence m f).generation = s.generation := rfl
@[simp] theorem State.setFence_planeState (s : State) (m : Master) (f : FenceTracker) :
    (s.setFence m f).planeState = s.planeState := rfl
@[simp] theorem State.setFence_refCounts (s : State) (m : Master) (f : FenceTracker) :
    (s.setFence m f).refCounts = s.refCounts := rfl
@[simp] theorem State.setFence_decrements (s : State) (m : Master) (f : FenceTracker) :
    (s.setFence m f).decrements = s.decrements := rfl
@[simp] theorem State.setFence_flushReports (s : State) (m : Master) (f : FenceTracker) :
    (s.setFence m f).flushReports = s.flushReports := rfl
@[simp] theorem State.setFence_announcements (s : State) (m : Master) (f : FenceTracker) :
    (s.setFence m f).announcements = s.announcements := rfl
@[simp] theorem State.setFence_control (s : State) (m : Master) (f : FenceTracker) :
    (s.setFence m f).control = s.control := rfl
@[simp] theorem State.setFence_ort (s : State) (m : Master) (f : FenceTracker) :
    (s.setFence m f).ort = s.ort := rfl
@[simp] theorem State.setFence_held (s : State) (m : Master) (f : FenceTracker) :
    (s.setFence m f).held = s.held := rfl
@[simp] theorem State.setFence_freeBlocks (s : State) (m : Master) (f : FenceTracker) :
    (s.setFence m f).freeBlocks = s.freeBlocks := rfl
@[simp] theorem State.setFence_lanes (s : State) (m : Master) (f : FenceTracker) :
    (s.setFence m f).lanes = s.lanes := rfl
@[simp] theorem State.setFence_targets (s : State) (m : Master) (f : FenceTracker) :
    (s.setFence m f).targets = s.targets := rfl
@[simp] theorem State.setFence_masterOut (s : State) (m : Master) (f : FenceTracker) :
    (s.setFence m f).masterOut = s.masterOut := rfl
@[simp] theorem State.setFence_targetOut (s : State) (m : Master) (f : FenceTracker) :
    (s.setFence m f).targetOut = s.targetOut := rfl
@[simp] theorem State.setFence_choices (s : State) (m : Master) (f : FenceTracker) :
    (s.setFence m f).choices = s.choices := rfl
@[simp] theorem State.setFence_pending (s : State) (m : Master) (f : FenceTracker) :
    (s.setFence m f).pending = s.pending := rfl

/-! ### setTarget -/
@[simp] theorem State.setTarget_pwronN (s : State) (t : Target) (p : TargetPort) :
    (s.setTarget t p).pwronN = s.pwronN := rfl
@[simp] theorem State.setTarget_straps (s : State) (t : Target) (p : TargetPort) :
    (s.setTarget t p).straps = s.straps := rfl
@[simp] theorem State.setTarget_now (s : State) (t : Target) (p : TargetPort) :
    (s.setTarget t p).now = s.now := rfl
@[simp] theorem State.setTarget_planes (s : State) (t : Target) (p : TargetPort) :
    (s.setTarget t p).planes = s.planes := rfl
@[simp] theorem State.setTarget_generation (s : State) (t : Target) (p : TargetPort) :
    (s.setTarget t p).generation = s.generation := rfl
@[simp] theorem State.setTarget_planeState (s : State) (t : Target) (p : TargetPort) :
    (s.setTarget t p).planeState = s.planeState := rfl
@[simp] theorem State.setTarget_refCounts (s : State) (t : Target) (p : TargetPort) :
    (s.setTarget t p).refCounts = s.refCounts := rfl
@[simp] theorem State.setTarget_decrements (s : State) (t : Target) (p : TargetPort) :
    (s.setTarget t p).decrements = s.decrements := rfl
@[simp] theorem State.setTarget_flushReports (s : State) (t : Target) (p : TargetPort) :
    (s.setTarget t p).flushReports = s.flushReports := rfl
@[simp] theorem State.setTarget_announcements (s : State) (t : Target) (p : TargetPort) :
    (s.setTarget t p).announcements = s.announcements := rfl
@[simp] theorem State.setTarget_masters (s : State) (t : Target) (p : TargetPort) :
    (s.setTarget t p).masters = s.masters := rfl
@[simp] theorem State.setTarget_control (s : State) (t : Target) (p : TargetPort) :
    (s.setTarget t p).control = s.control := rfl
@[simp] theorem State.setTarget_ort (s : State) (t : Target) (p : TargetPort) :
    (s.setTarget t p).ort = s.ort := rfl
@[simp] theorem State.setTarget_held (s : State) (t : Target) (p : TargetPort) :
    (s.setTarget t p).held = s.held := rfl
@[simp] theorem State.setTarget_freeBlocks (s : State) (t : Target) (p : TargetPort) :
    (s.setTarget t p).freeBlocks = s.freeBlocks := rfl
@[simp] theorem State.setTarget_lanes (s : State) (t : Target) (p : TargetPort) :
    (s.setTarget t p).lanes = s.lanes := rfl
@[simp] theorem State.setTarget_masterOut (s : State) (t : Target) (p : TargetPort) :
    (s.setTarget t p).masterOut = s.masterOut := rfl
@[simp] theorem State.setTarget_targetOut (s : State) (t : Target) (p : TargetPort) :
    (s.setTarget t p).targetOut = s.targetOut := rfl
@[simp] theorem State.setTarget_choices (s : State) (t : Target) (p : TargetPort) :
    (s.setTarget t p).choices = s.choices := rfl
@[simp] theorem State.setTarget_pending (s : State) (t : Target) (p : TargetPort) :
    (s.setTarget t p).pending = s.pending := rfl

/-! ### modTarget -/
@[simp] theorem State.modTarget_pwronN (s : State) (t : Target) (f : TargetPort → TargetPort) :
    (s.modTarget t f).pwronN = s.pwronN := rfl
@[simp] theorem State.modTarget_straps (s : State) (t : Target) (f : TargetPort → TargetPort) :
    (s.modTarget t f).straps = s.straps := rfl
@[simp] theorem State.modTarget_now (s : State) (t : Target) (f : TargetPort → TargetPort) :
    (s.modTarget t f).now = s.now := rfl
@[simp] theorem State.modTarget_planes (s : State) (t : Target) (f : TargetPort → TargetPort) :
    (s.modTarget t f).planes = s.planes := rfl
@[simp] theorem State.modTarget_generation (s : State) (t : Target) (f : TargetPort → TargetPort) :
    (s.modTarget t f).generation = s.generation := rfl
@[simp] theorem State.modTarget_planeState (s : State) (t : Target) (f : TargetPort → TargetPort) :
    (s.modTarget t f).planeState = s.planeState := rfl
@[simp] theorem State.modTarget_refCounts (s : State) (t : Target) (f : TargetPort → TargetPort) :
    (s.modTarget t f).refCounts = s.refCounts := rfl
@[simp] theorem State.modTarget_decrements (s : State) (t : Target) (f : TargetPort → TargetPort) :
    (s.modTarget t f).decrements = s.decrements := rfl
@[simp] theorem State.modTarget_flushReports (s : State) (t : Target) (f : TargetPort → TargetPort) :
    (s.modTarget t f).flushReports = s.flushReports := rfl
@[simp] theorem State.modTarget_announcements (s : State) (t : Target) (f : TargetPort → TargetPort) :
    (s.modTarget t f).announcements = s.announcements := rfl
@[simp] theorem State.modTarget_masters (s : State) (t : Target) (f : TargetPort → TargetPort) :
    (s.modTarget t f).masters = s.masters := rfl
@[simp] theorem State.modTarget_control (s : State) (t : Target) (f : TargetPort → TargetPort) :
    (s.modTarget t f).control = s.control := rfl
@[simp] theorem State.modTarget_ort (s : State) (t : Target) (f : TargetPort → TargetPort) :
    (s.modTarget t f).ort = s.ort := rfl
@[simp] theorem State.modTarget_held (s : State) (t : Target) (f : TargetPort → TargetPort) :
    (s.modTarget t f).held = s.held := rfl
@[simp] theorem State.modTarget_freeBlocks (s : State) (t : Target) (f : TargetPort → TargetPort) :
    (s.modTarget t f).freeBlocks = s.freeBlocks := rfl
@[simp] theorem State.modTarget_lanes (s : State) (t : Target) (f : TargetPort → TargetPort) :
    (s.modTarget t f).lanes = s.lanes := rfl
@[simp] theorem State.modTarget_masterOut (s : State) (t : Target) (f : TargetPort → TargetPort) :
    (s.modTarget t f).masterOut = s.masterOut := rfl
@[simp] theorem State.modTarget_targetOut (s : State) (t : Target) (f : TargetPort → TargetPort) :
    (s.modTarget t f).targetOut = s.targetOut := rfl
@[simp] theorem State.modTarget_choices (s : State) (t : Target) (f : TargetPort → TargetPort) :
    (s.modTarget t f).choices = s.choices := rfl
@[simp] theorem State.modTarget_pending (s : State) (t : Target) (f : TargetPort → TargetPort) :
    (s.modTarget t f).pending = s.pending := rfl

/-! ### setUse -/
@[simp] theorem State.setUse_pwronN (s : State) (i : OrtIndex) (u : Option OrtUse) :
    (s.setUse i u).pwronN = s.pwronN := rfl
@[simp] theorem State.setUse_straps (s : State) (i : OrtIndex) (u : Option OrtUse) :
    (s.setUse i u).straps = s.straps := rfl
@[simp] theorem State.setUse_now (s : State) (i : OrtIndex) (u : Option OrtUse) :
    (s.setUse i u).now = s.now := rfl
@[simp] theorem State.setUse_planes (s : State) (i : OrtIndex) (u : Option OrtUse) :
    (s.setUse i u).planes = s.planes := rfl
@[simp] theorem State.setUse_generation (s : State) (i : OrtIndex) (u : Option OrtUse) :
    (s.setUse i u).generation = s.generation := rfl
@[simp] theorem State.setUse_planeState (s : State) (i : OrtIndex) (u : Option OrtUse) :
    (s.setUse i u).planeState = s.planeState := rfl
@[simp] theorem State.setUse_refCounts (s : State) (i : OrtIndex) (u : Option OrtUse) :
    (s.setUse i u).refCounts = s.refCounts := rfl
@[simp] theorem State.setUse_decrements (s : State) (i : OrtIndex) (u : Option OrtUse) :
    (s.setUse i u).decrements = s.decrements := rfl
@[simp] theorem State.setUse_flushReports (s : State) (i : OrtIndex) (u : Option OrtUse) :
    (s.setUse i u).flushReports = s.flushReports := rfl
@[simp] theorem State.setUse_announcements (s : State) (i : OrtIndex) (u : Option OrtUse) :
    (s.setUse i u).announcements = s.announcements := rfl
@[simp] theorem State.setUse_masters (s : State) (i : OrtIndex) (u : Option OrtUse) :
    (s.setUse i u).masters = s.masters := rfl
@[simp] theorem State.setUse_control (s : State) (i : OrtIndex) (u : Option OrtUse) :
    (s.setUse i u).control = s.control := rfl
@[simp] theorem State.setUse_held (s : State) (i : OrtIndex) (u : Option OrtUse) :
    (s.setUse i u).held = s.held := rfl
@[simp] theorem State.setUse_freeBlocks (s : State) (i : OrtIndex) (u : Option OrtUse) :
    (s.setUse i u).freeBlocks = s.freeBlocks := rfl
@[simp] theorem State.setUse_lanes (s : State) (i : OrtIndex) (u : Option OrtUse) :
    (s.setUse i u).lanes = s.lanes := rfl
@[simp] theorem State.setUse_targets (s : State) (i : OrtIndex) (u : Option OrtUse) :
    (s.setUse i u).targets = s.targets := rfl
@[simp] theorem State.setUse_masterOut (s : State) (i : OrtIndex) (u : Option OrtUse) :
    (s.setUse i u).masterOut = s.masterOut := rfl
@[simp] theorem State.setUse_targetOut (s : State) (i : OrtIndex) (u : Option OrtUse) :
    (s.setUse i u).targetOut = s.targetOut := rfl
@[simp] theorem State.setUse_choices (s : State) (i : OrtIndex) (u : Option OrtUse) :
    (s.setUse i u).choices = s.choices := rfl
@[simp] theorem State.setUse_pending (s : State) (i : OrtIndex) (u : Option OrtUse) :
    (s.setUse i u).pending = s.pending := rfl

/-! ### setLane -/
@[simp] theorem State.setLane_pwronN (s : State) (t : Target) (m : Master) (l : List OrtIndex) :
    (s.setLane t m l).pwronN = s.pwronN := rfl
@[simp] theorem State.setLane_straps (s : State) (t : Target) (m : Master) (l : List OrtIndex) :
    (s.setLane t m l).straps = s.straps := rfl
@[simp] theorem State.setLane_now (s : State) (t : Target) (m : Master) (l : List OrtIndex) :
    (s.setLane t m l).now = s.now := rfl
@[simp] theorem State.setLane_planes (s : State) (t : Target) (m : Master) (l : List OrtIndex) :
    (s.setLane t m l).planes = s.planes := rfl
@[simp] theorem State.setLane_generation (s : State) (t : Target) (m : Master) (l : List OrtIndex) :
    (s.setLane t m l).generation = s.generation := rfl
@[simp] theorem State.setLane_planeState (s : State) (t : Target) (m : Master) (l : List OrtIndex) :
    (s.setLane t m l).planeState = s.planeState := rfl
@[simp] theorem State.setLane_refCounts (s : State) (t : Target) (m : Master) (l : List OrtIndex) :
    (s.setLane t m l).refCounts = s.refCounts := rfl
@[simp] theorem State.setLane_decrements (s : State) (t : Target) (m : Master) (l : List OrtIndex) :
    (s.setLane t m l).decrements = s.decrements := rfl
@[simp] theorem State.setLane_flushReports (s : State) (t : Target) (m : Master) (l : List OrtIndex) :
    (s.setLane t m l).flushReports = s.flushReports := rfl
@[simp] theorem State.setLane_announcements (s : State) (t : Target) (m : Master) (l : List OrtIndex) :
    (s.setLane t m l).announcements = s.announcements := rfl
@[simp] theorem State.setLane_masters (s : State) (t : Target) (m : Master) (l : List OrtIndex) :
    (s.setLane t m l).masters = s.masters := rfl
@[simp] theorem State.setLane_control (s : State) (t : Target) (m : Master) (l : List OrtIndex) :
    (s.setLane t m l).control = s.control := rfl
@[simp] theorem State.setLane_ort (s : State) (t : Target) (m : Master) (l : List OrtIndex) :
    (s.setLane t m l).ort = s.ort := rfl
@[simp] theorem State.setLane_held (s : State) (t : Target) (m : Master) (l : List OrtIndex) :
    (s.setLane t m l).held = s.held := rfl
@[simp] theorem State.setLane_freeBlocks (s : State) (t : Target) (m : Master) (l : List OrtIndex) :
    (s.setLane t m l).freeBlocks = s.freeBlocks := rfl
@[simp] theorem State.setLane_targets (s : State) (t : Target) (m : Master) (l : List OrtIndex) :
    (s.setLane t m l).targets = s.targets := rfl
@[simp] theorem State.setLane_masterOut (s : State) (t : Target) (m : Master) (l : List OrtIndex) :
    (s.setLane t m l).masterOut = s.masterOut := rfl
@[simp] theorem State.setLane_targetOut (s : State) (t : Target) (m : Master) (l : List OrtIndex) :
    (s.setLane t m l).targetOut = s.targetOut := rfl
@[simp] theorem State.setLane_choices (s : State) (t : Target) (m : Master) (l : List OrtIndex) :
    (s.setLane t m l).choices = s.choices := rfl
@[simp] theorem State.setLane_pending (s : State) (t : Target) (m : Master) (l : List OrtIndex) :
    (s.setLane t m l).pending = s.pending := rfl

/-! ### putMaster -/
@[simp] theorem State.putMaster_pwronN (s : State) (m : Master) (o : LinkOutput) :
    (s.putMaster m o).pwronN = s.pwronN := rfl
@[simp] theorem State.putMaster_straps (s : State) (m : Master) (o : LinkOutput) :
    (s.putMaster m o).straps = s.straps := rfl
@[simp] theorem State.putMaster_now (s : State) (m : Master) (o : LinkOutput) :
    (s.putMaster m o).now = s.now := rfl
@[simp] theorem State.putMaster_planes (s : State) (m : Master) (o : LinkOutput) :
    (s.putMaster m o).planes = s.planes := rfl
@[simp] theorem State.putMaster_generation (s : State) (m : Master) (o : LinkOutput) :
    (s.putMaster m o).generation = s.generation := rfl
@[simp] theorem State.putMaster_planeState (s : State) (m : Master) (o : LinkOutput) :
    (s.putMaster m o).planeState = s.planeState := rfl
@[simp] theorem State.putMaster_refCounts (s : State) (m : Master) (o : LinkOutput) :
    (s.putMaster m o).refCounts = s.refCounts := rfl
@[simp] theorem State.putMaster_decrements (s : State) (m : Master) (o : LinkOutput) :
    (s.putMaster m o).decrements = s.decrements := rfl
@[simp] theorem State.putMaster_flushReports (s : State) (m : Master) (o : LinkOutput) :
    (s.putMaster m o).flushReports = s.flushReports := rfl
@[simp] theorem State.putMaster_announcements (s : State) (m : Master) (o : LinkOutput) :
    (s.putMaster m o).announcements = s.announcements := rfl
@[simp] theorem State.putMaster_masters (s : State) (m : Master) (o : LinkOutput) :
    (s.putMaster m o).masters = s.masters := rfl
@[simp] theorem State.putMaster_control (s : State) (m : Master) (o : LinkOutput) :
    (s.putMaster m o).control = s.control := rfl
@[simp] theorem State.putMaster_ort (s : State) (m : Master) (o : LinkOutput) :
    (s.putMaster m o).ort = s.ort := rfl
@[simp] theorem State.putMaster_held (s : State) (m : Master) (o : LinkOutput) :
    (s.putMaster m o).held = s.held := rfl
@[simp] theorem State.putMaster_freeBlocks (s : State) (m : Master) (o : LinkOutput) :
    (s.putMaster m o).freeBlocks = s.freeBlocks := rfl
@[simp] theorem State.putMaster_lanes (s : State) (m : Master) (o : LinkOutput) :
    (s.putMaster m o).lanes = s.lanes := rfl
@[simp] theorem State.putMaster_targets (s : State) (m : Master) (o : LinkOutput) :
    (s.putMaster m o).targets = s.targets := rfl
@[simp] theorem State.putMaster_targetOut (s : State) (m : Master) (o : LinkOutput) :
    (s.putMaster m o).targetOut = s.targetOut := rfl
@[simp] theorem State.putMaster_choices (s : State) (m : Master) (o : LinkOutput) :
    (s.putMaster m o).choices = s.choices := rfl
@[simp] theorem State.putMaster_pending (s : State) (m : Master) (o : LinkOutput) :
    (s.putMaster m o).pending = s.pending := rfl

/-! ### putTarget -/
@[simp] theorem State.putTarget_pwronN (s : State) (t : Target) (o : LinkOutput) :
    (s.putTarget t o).pwronN = s.pwronN := rfl
@[simp] theorem State.putTarget_straps (s : State) (t : Target) (o : LinkOutput) :
    (s.putTarget t o).straps = s.straps := rfl
@[simp] theorem State.putTarget_now (s : State) (t : Target) (o : LinkOutput) :
    (s.putTarget t o).now = s.now := rfl
@[simp] theorem State.putTarget_planes (s : State) (t : Target) (o : LinkOutput) :
    (s.putTarget t o).planes = s.planes := rfl
@[simp] theorem State.putTarget_generation (s : State) (t : Target) (o : LinkOutput) :
    (s.putTarget t o).generation = s.generation := rfl
@[simp] theorem State.putTarget_planeState (s : State) (t : Target) (o : LinkOutput) :
    (s.putTarget t o).planeState = s.planeState := rfl
@[simp] theorem State.putTarget_refCounts (s : State) (t : Target) (o : LinkOutput) :
    (s.putTarget t o).refCounts = s.refCounts := rfl
@[simp] theorem State.putTarget_decrements (s : State) (t : Target) (o : LinkOutput) :
    (s.putTarget t o).decrements = s.decrements := rfl
@[simp] theorem State.putTarget_flushReports (s : State) (t : Target) (o : LinkOutput) :
    (s.putTarget t o).flushReports = s.flushReports := rfl
@[simp] theorem State.putTarget_announcements (s : State) (t : Target) (o : LinkOutput) :
    (s.putTarget t o).announcements = s.announcements := rfl
@[simp] theorem State.putTarget_masters (s : State) (t : Target) (o : LinkOutput) :
    (s.putTarget t o).masters = s.masters := rfl
@[simp] theorem State.putTarget_control (s : State) (t : Target) (o : LinkOutput) :
    (s.putTarget t o).control = s.control := rfl
@[simp] theorem State.putTarget_ort (s : State) (t : Target) (o : LinkOutput) :
    (s.putTarget t o).ort = s.ort := rfl
@[simp] theorem State.putTarget_held (s : State) (t : Target) (o : LinkOutput) :
    (s.putTarget t o).held = s.held := rfl
@[simp] theorem State.putTarget_freeBlocks (s : State) (t : Target) (o : LinkOutput) :
    (s.putTarget t o).freeBlocks = s.freeBlocks := rfl
@[simp] theorem State.putTarget_lanes (s : State) (t : Target) (o : LinkOutput) :
    (s.putTarget t o).lanes = s.lanes := rfl
@[simp] theorem State.putTarget_targets (s : State) (t : Target) (o : LinkOutput) :
    (s.putTarget t o).targets = s.targets := rfl
@[simp] theorem State.putTarget_masterOut (s : State) (t : Target) (o : LinkOutput) :
    (s.putTarget t o).masterOut = s.masterOut := rfl
@[simp] theorem State.putTarget_choices (s : State) (t : Target) (o : LinkOutput) :
    (s.putTarget t o).choices = s.choices := rfl
@[simp] theorem State.putTarget_pending (s : State) (t : Target) (o : LinkOutput) :
    (s.putTarget t o).pending = s.pending := rfl

/-! ### sendDecrement -/
@[simp] theorem State.sendDecrement_pwronN (s : State) (p : PlaneId) :
    (s.sendDecrement p).pwronN = s.pwronN := rfl
@[simp] theorem State.sendDecrement_straps (s : State) (p : PlaneId) :
    (s.sendDecrement p).straps = s.straps := rfl
@[simp] theorem State.sendDecrement_now (s : State) (p : PlaneId) :
    (s.sendDecrement p).now = s.now := rfl
@[simp] theorem State.sendDecrement_planes (s : State) (p : PlaneId) :
    (s.sendDecrement p).planes = s.planes := rfl
@[simp] theorem State.sendDecrement_generation (s : State) (p : PlaneId) :
    (s.sendDecrement p).generation = s.generation := rfl
@[simp] theorem State.sendDecrement_planeState (s : State) (p : PlaneId) :
    (s.sendDecrement p).planeState = s.planeState := rfl
@[simp] theorem State.sendDecrement_refCounts (s : State) (p : PlaneId) :
    (s.sendDecrement p).refCounts = s.refCounts := rfl
@[simp] theorem State.sendDecrement_flushReports (s : State) (p : PlaneId) :
    (s.sendDecrement p).flushReports = s.flushReports := rfl
@[simp] theorem State.sendDecrement_announcements (s : State) (p : PlaneId) :
    (s.sendDecrement p).announcements = s.announcements := rfl
@[simp] theorem State.sendDecrement_masters (s : State) (p : PlaneId) :
    (s.sendDecrement p).masters = s.masters := rfl
@[simp] theorem State.sendDecrement_control (s : State) (p : PlaneId) :
    (s.sendDecrement p).control = s.control := rfl
@[simp] theorem State.sendDecrement_ort (s : State) (p : PlaneId) :
    (s.sendDecrement p).ort = s.ort := rfl
@[simp] theorem State.sendDecrement_held (s : State) (p : PlaneId) :
    (s.sendDecrement p).held = s.held := rfl
@[simp] theorem State.sendDecrement_freeBlocks (s : State) (p : PlaneId) :
    (s.sendDecrement p).freeBlocks = s.freeBlocks := rfl
@[simp] theorem State.sendDecrement_lanes (s : State) (p : PlaneId) :
    (s.sendDecrement p).lanes = s.lanes := rfl
@[simp] theorem State.sendDecrement_targets (s : State) (p : PlaneId) :
    (s.sendDecrement p).targets = s.targets := rfl
@[simp] theorem State.sendDecrement_masterOut (s : State) (p : PlaneId) :
    (s.sendDecrement p).masterOut = s.masterOut := rfl
@[simp] theorem State.sendDecrement_targetOut (s : State) (p : PlaneId) :
    (s.sendDecrement p).targetOut = s.targetOut := rfl
@[simp] theorem State.sendDecrement_choices (s : State) (p : PlaneId) :
    (s.sendDecrement p).choices = s.choices := rfl
@[simp] theorem State.sendDecrement_pending (s : State) (p : PlaneId) :
    (s.sendDecrement p).pending = s.pending := rfl

/-! ### setCount -/
@[simp] theorem State.setCount_pwronN (s : State) (p : PlaneId) (n : Nat) :
    (s.setCount p n).pwronN = s.pwronN := rfl
@[simp] theorem State.setCount_straps (s : State) (p : PlaneId) (n : Nat) :
    (s.setCount p n).straps = s.straps := rfl
@[simp] theorem State.setCount_now (s : State) (p : PlaneId) (n : Nat) :
    (s.setCount p n).now = s.now := rfl
@[simp] theorem State.setCount_planes (s : State) (p : PlaneId) (n : Nat) :
    (s.setCount p n).planes = s.planes := rfl
@[simp] theorem State.setCount_generation (s : State) (p : PlaneId) (n : Nat) :
    (s.setCount p n).generation = s.generation := rfl
@[simp] theorem State.setCount_planeState (s : State) (p : PlaneId) (n : Nat) :
    (s.setCount p n).planeState = s.planeState := rfl
@[simp] theorem State.setCount_decrements (s : State) (p : PlaneId) (n : Nat) :
    (s.setCount p n).decrements = s.decrements := rfl
@[simp] theorem State.setCount_flushReports (s : State) (p : PlaneId) (n : Nat) :
    (s.setCount p n).flushReports = s.flushReports := rfl
@[simp] theorem State.setCount_announcements (s : State) (p : PlaneId) (n : Nat) :
    (s.setCount p n).announcements = s.announcements := rfl
@[simp] theorem State.setCount_masters (s : State) (p : PlaneId) (n : Nat) :
    (s.setCount p n).masters = s.masters := rfl
@[simp] theorem State.setCount_control (s : State) (p : PlaneId) (n : Nat) :
    (s.setCount p n).control = s.control := rfl
@[simp] theorem State.setCount_ort (s : State) (p : PlaneId) (n : Nat) :
    (s.setCount p n).ort = s.ort := rfl
@[simp] theorem State.setCount_held (s : State) (p : PlaneId) (n : Nat) :
    (s.setCount p n).held = s.held := rfl
@[simp] theorem State.setCount_freeBlocks (s : State) (p : PlaneId) (n : Nat) :
    (s.setCount p n).freeBlocks = s.freeBlocks := rfl
@[simp] theorem State.setCount_lanes (s : State) (p : PlaneId) (n : Nat) :
    (s.setCount p n).lanes = s.lanes := rfl
@[simp] theorem State.setCount_targets (s : State) (p : PlaneId) (n : Nat) :
    (s.setCount p n).targets = s.targets := rfl
@[simp] theorem State.setCount_masterOut (s : State) (p : PlaneId) (n : Nat) :
    (s.setCount p n).masterOut = s.masterOut := rfl
@[simp] theorem State.setCount_targetOut (s : State) (p : PlaneId) (n : Nat) :
    (s.setCount p n).targetOut = s.targetOut := rfl
@[simp] theorem State.setCount_choices (s : State) (p : PlaneId) (n : Nat) :
    (s.setCount p n).choices = s.choices := rfl
@[simp] theorem State.setCount_pending (s : State) (p : PlaneId) (n : Nat) :
    (s.setCount p n).pending = s.pending := rfl

/-! ### setHeld -/
@[simp] theorem State.setHeld_pwronN (s : State) (m : Master) (n : Nat) :
    (s.setHeld m n).pwronN = s.pwronN := rfl
@[simp] theorem State.setHeld_straps (s : State) (m : Master) (n : Nat) :
    (s.setHeld m n).straps = s.straps := rfl
@[simp] theorem State.setHeld_now (s : State) (m : Master) (n : Nat) :
    (s.setHeld m n).now = s.now := rfl
@[simp] theorem State.setHeld_planes (s : State) (m : Master) (n : Nat) :
    (s.setHeld m n).planes = s.planes := rfl
@[simp] theorem State.setHeld_generation (s : State) (m : Master) (n : Nat) :
    (s.setHeld m n).generation = s.generation := rfl
@[simp] theorem State.setHeld_planeState (s : State) (m : Master) (n : Nat) :
    (s.setHeld m n).planeState = s.planeState := rfl
@[simp] theorem State.setHeld_refCounts (s : State) (m : Master) (n : Nat) :
    (s.setHeld m n).refCounts = s.refCounts := rfl
@[simp] theorem State.setHeld_decrements (s : State) (m : Master) (n : Nat) :
    (s.setHeld m n).decrements = s.decrements := rfl
@[simp] theorem State.setHeld_flushReports (s : State) (m : Master) (n : Nat) :
    (s.setHeld m n).flushReports = s.flushReports := rfl
@[simp] theorem State.setHeld_announcements (s : State) (m : Master) (n : Nat) :
    (s.setHeld m n).announcements = s.announcements := rfl
@[simp] theorem State.setHeld_masters (s : State) (m : Master) (n : Nat) :
    (s.setHeld m n).masters = s.masters := rfl
@[simp] theorem State.setHeld_control (s : State) (m : Master) (n : Nat) :
    (s.setHeld m n).control = s.control := rfl
@[simp] theorem State.setHeld_ort (s : State) (m : Master) (n : Nat) :
    (s.setHeld m n).ort = s.ort := rfl
@[simp] theorem State.setHeld_freeBlocks (s : State) (m : Master) (n : Nat) :
    (s.setHeld m n).freeBlocks = s.freeBlocks := rfl
@[simp] theorem State.setHeld_lanes (s : State) (m : Master) (n : Nat) :
    (s.setHeld m n).lanes = s.lanes := rfl
@[simp] theorem State.setHeld_targets (s : State) (m : Master) (n : Nat) :
    (s.setHeld m n).targets = s.targets := rfl
@[simp] theorem State.setHeld_masterOut (s : State) (m : Master) (n : Nat) :
    (s.setHeld m n).masterOut = s.masterOut := rfl
@[simp] theorem State.setHeld_targetOut (s : State) (m : Master) (n : Nat) :
    (s.setHeld m n).targetOut = s.targetOut := rfl
@[simp] theorem State.setHeld_choices (s : State) (m : Master) (n : Nat) :
    (s.setHeld m n).choices = s.choices := rfl
@[simp] theorem State.setHeld_pending (s : State) (m : Master) (n : Nat) :
    (s.setHeld m n).pending = s.pending := rfl

/-! ### setAnnouncement -/
@[simp] theorem State.setAnnouncement_pwronN (s : State) (m : Master) (t : Target) (n : Nat) :
    (s.setAnnouncement m t n).pwronN = s.pwronN := rfl
@[simp] theorem State.setAnnouncement_straps (s : State) (m : Master) (t : Target) (n : Nat) :
    (s.setAnnouncement m t n).straps = s.straps := rfl
@[simp] theorem State.setAnnouncement_now (s : State) (m : Master) (t : Target) (n : Nat) :
    (s.setAnnouncement m t n).now = s.now := rfl
@[simp] theorem State.setAnnouncement_planes (s : State) (m : Master) (t : Target) (n : Nat) :
    (s.setAnnouncement m t n).planes = s.planes := rfl
@[simp] theorem State.setAnnouncement_generation (s : State) (m : Master) (t : Target) (n : Nat) :
    (s.setAnnouncement m t n).generation = s.generation := rfl
@[simp] theorem State.setAnnouncement_planeState (s : State) (m : Master) (t : Target) (n : Nat) :
    (s.setAnnouncement m t n).planeState = s.planeState := rfl
@[simp] theorem State.setAnnouncement_refCounts (s : State) (m : Master) (t : Target) (n : Nat) :
    (s.setAnnouncement m t n).refCounts = s.refCounts := rfl
@[simp] theorem State.setAnnouncement_decrements (s : State) (m : Master) (t : Target) (n : Nat) :
    (s.setAnnouncement m t n).decrements = s.decrements := rfl
@[simp] theorem State.setAnnouncement_flushReports (s : State) (m : Master) (t : Target) (n : Nat) :
    (s.setAnnouncement m t n).flushReports = s.flushReports := rfl
@[simp] theorem State.setAnnouncement_masters (s : State) (m : Master) (t : Target) (n : Nat) :
    (s.setAnnouncement m t n).masters = s.masters := rfl
@[simp] theorem State.setAnnouncement_control (s : State) (m : Master) (t : Target) (n : Nat) :
    (s.setAnnouncement m t n).control = s.control := rfl
@[simp] theorem State.setAnnouncement_ort (s : State) (m : Master) (t : Target) (n : Nat) :
    (s.setAnnouncement m t n).ort = s.ort := rfl
@[simp] theorem State.setAnnouncement_held (s : State) (m : Master) (t : Target) (n : Nat) :
    (s.setAnnouncement m t n).held = s.held := rfl
@[simp] theorem State.setAnnouncement_freeBlocks (s : State) (m : Master) (t : Target) (n : Nat) :
    (s.setAnnouncement m t n).freeBlocks = s.freeBlocks := rfl
@[simp] theorem State.setAnnouncement_lanes (s : State) (m : Master) (t : Target) (n : Nat) :
    (s.setAnnouncement m t n).lanes = s.lanes := rfl
@[simp] theorem State.setAnnouncement_targets (s : State) (m : Master) (t : Target) (n : Nat) :
    (s.setAnnouncement m t n).targets = s.targets := rfl
@[simp] theorem State.setAnnouncement_masterOut (s : State) (m : Master) (t : Target) (n : Nat) :
    (s.setAnnouncement m t n).masterOut = s.masterOut := rfl
@[simp] theorem State.setAnnouncement_targetOut (s : State) (m : Master) (t : Target) (n : Nat) :
    (s.setAnnouncement m t n).targetOut = s.targetOut := rfl
@[simp] theorem State.setAnnouncement_choices (s : State) (m : Master) (t : Target) (n : Nat) :
    (s.setAnnouncement m t n).choices = s.choices := rfl
@[simp] theorem State.setAnnouncement_pending (s : State) (m : Master) (t : Target) (n : Nat) :
    (s.setAnnouncement m t n).pending = s.pending := rfl

/-! ### passTime -/
@[simp] theorem State.passTime_pwronN (s : State) (d : Nat) :
    (s.passTime d).pwronN = s.pwronN := rfl
@[simp] theorem State.passTime_straps (s : State) (d : Nat) :
    (s.passTime d).straps = s.straps := rfl
@[simp] theorem State.passTime_planes (s : State) (d : Nat) :
    (s.passTime d).planes = s.planes := rfl
@[simp] theorem State.passTime_generation (s : State) (d : Nat) :
    (s.passTime d).generation = s.generation := rfl
@[simp] theorem State.passTime_planeState (s : State) (d : Nat) :
    (s.passTime d).planeState = s.planeState := rfl
@[simp] theorem State.passTime_refCounts (s : State) (d : Nat) :
    (s.passTime d).refCounts = s.refCounts := rfl
@[simp] theorem State.passTime_decrements (s : State) (d : Nat) :
    (s.passTime d).decrements = s.decrements := rfl
@[simp] theorem State.passTime_flushReports (s : State) (d : Nat) :
    (s.passTime d).flushReports = s.flushReports := rfl
@[simp] theorem State.passTime_announcements (s : State) (d : Nat) :
    (s.passTime d).announcements = s.announcements := rfl
@[simp] theorem State.passTime_control (s : State) (d : Nat) :
    (s.passTime d).control = s.control := rfl
@[simp] theorem State.passTime_ort (s : State) (d : Nat) :
    (s.passTime d).ort = s.ort := rfl
@[simp] theorem State.passTime_held (s : State) (d : Nat) :
    (s.passTime d).held = s.held := rfl
@[simp] theorem State.passTime_freeBlocks (s : State) (d : Nat) :
    (s.passTime d).freeBlocks = s.freeBlocks := rfl
@[simp] theorem State.passTime_lanes (s : State) (d : Nat) :
    (s.passTime d).lanes = s.lanes := rfl
@[simp] theorem State.passTime_targets (s : State) (d : Nat) :
    (s.passTime d).targets = s.targets := rfl
@[simp] theorem State.passTime_masterOut (s : State) (d : Nat) :
    (s.passTime d).masterOut = s.masterOut := rfl
@[simp] theorem State.passTime_targetOut (s : State) (d : Nat) :
    (s.passTime d).targetOut = s.targetOut := rfl
@[simp] theorem State.passTime_choices (s : State) (d : Nat) :
    (s.passTime d).choices = s.choices := rfl
@[simp] theorem State.passTime_pending (s : State) (d : Nat) :
    (s.passTime d).pending = s.pending := rfl

/-! ### advanceTo -/
@[simp] theorem State.advanceTo_pwronN (s : State) (d : Nat) :
    (s.advanceTo d).pwronN = s.pwronN := rfl
@[simp] theorem State.advanceTo_straps (s : State) (d : Nat) :
    (s.advanceTo d).straps = s.straps := rfl
@[simp] theorem State.advanceTo_planes (s : State) (d : Nat) :
    (s.advanceTo d).planes = s.planes := rfl
@[simp] theorem State.advanceTo_generation (s : State) (d : Nat) :
    (s.advanceTo d).generation = s.generation := rfl
@[simp] theorem State.advanceTo_planeState (s : State) (d : Nat) :
    (s.advanceTo d).planeState = s.planeState := rfl
@[simp] theorem State.advanceTo_refCounts (s : State) (d : Nat) :
    (s.advanceTo d).refCounts = s.refCounts := rfl
@[simp] theorem State.advanceTo_decrements (s : State) (d : Nat) :
    (s.advanceTo d).decrements = s.decrements := rfl
@[simp] theorem State.advanceTo_flushReports (s : State) (d : Nat) :
    (s.advanceTo d).flushReports = s.flushReports := rfl
@[simp] theorem State.advanceTo_announcements (s : State) (d : Nat) :
    (s.advanceTo d).announcements = s.announcements := rfl
@[simp] theorem State.advanceTo_control (s : State) (d : Nat) :
    (s.advanceTo d).control = s.control := rfl
@[simp] theorem State.advanceTo_ort (s : State) (d : Nat) :
    (s.advanceTo d).ort = s.ort := rfl
@[simp] theorem State.advanceTo_held (s : State) (d : Nat) :
    (s.advanceTo d).held = s.held := rfl
@[simp] theorem State.advanceTo_freeBlocks (s : State) (d : Nat) :
    (s.advanceTo d).freeBlocks = s.freeBlocks := rfl
@[simp] theorem State.advanceTo_lanes (s : State) (d : Nat) :
    (s.advanceTo d).lanes = s.lanes := rfl
@[simp] theorem State.advanceTo_targets (s : State) (d : Nat) :
    (s.advanceTo d).targets = s.targets := rfl
@[simp] theorem State.advanceTo_masterOut (s : State) (d : Nat) :
    (s.advanceTo d).masterOut = s.masterOut := rfl
@[simp] theorem State.advanceTo_targetOut (s : State) (d : Nat) :
    (s.advanceTo d).targetOut = s.targetOut := rfl
@[simp] theorem State.advanceTo_choices (s : State) (d : Nat) :
    (s.advanceTo d).choices = s.choices := rfl
@[simp] theorem State.advanceTo_pending (s : State) (d : Nat) :
    (s.advanceTo d).pending = s.pending := rfl

/-! ### fault -/
@[simp] theorem State.fault_pwronN (s : State) (m : Master) :
    (s.fault m).pwronN = s.pwronN := rfl
@[simp] theorem State.fault_straps (s : State) (m : Master) :
    (s.fault m).straps = s.straps := rfl
@[simp] theorem State.fault_now (s : State) (m : Master) :
    (s.fault m).now = s.now := rfl
@[simp] theorem State.fault_planes (s : State) (m : Master) :
    (s.fault m).planes = s.planes := rfl
@[simp] theorem State.fault_generation (s : State) (m : Master) :
    (s.fault m).generation = s.generation := rfl
@[simp] theorem State.fault_planeState (s : State) (m : Master) :
    (s.fault m).planeState = s.planeState := rfl
@[simp] theorem State.fault_refCounts (s : State) (m : Master) :
    (s.fault m).refCounts = s.refCounts := rfl
@[simp] theorem State.fault_decrements (s : State) (m : Master) :
    (s.fault m).decrements = s.decrements := rfl
@[simp] theorem State.fault_flushReports (s : State) (m : Master) :
    (s.fault m).flushReports = s.flushReports := rfl
@[simp] theorem State.fault_announcements (s : State) (m : Master) :
    (s.fault m).announcements = s.announcements := rfl
@[simp] theorem State.fault_control (s : State) (m : Master) :
    (s.fault m).control = s.control := rfl
@[simp] theorem State.fault_ort (s : State) (m : Master) :
    (s.fault m).ort = s.ort := rfl
@[simp] theorem State.fault_held (s : State) (m : Master) :
    (s.fault m).held = s.held := rfl
@[simp] theorem State.fault_freeBlocks (s : State) (m : Master) :
    (s.fault m).freeBlocks = s.freeBlocks := rfl
@[simp] theorem State.fault_lanes (s : State) (m : Master) :
    (s.fault m).lanes = s.lanes := rfl
@[simp] theorem State.fault_targets (s : State) (m : Master) :
    (s.fault m).targets = s.targets := rfl
@[simp] theorem State.fault_masterOut (s : State) (m : Master) :
    (s.fault m).masterOut = s.masterOut := rfl
@[simp] theorem State.fault_targetOut (s : State) (m : Master) :
    (s.fault m).targetOut = s.targetOut := rfl
@[simp] theorem State.fault_choices (s : State) (m : Master) :
    (s.fault m).choices = s.choices := rfl
@[simp] theorem State.fault_pending (s : State) (m : Master) :
    (s.fault m).pending = s.pending := rfl

/-! ### countStale -/
@[simp] theorem State.countStale_pwronN (s : State) (t : Target) :
    (s.countStale t).pwronN = s.pwronN := rfl
@[simp] theorem State.countStale_straps (s : State) (t : Target) :
    (s.countStale t).straps = s.straps := rfl
@[simp] theorem State.countStale_now (s : State) (t : Target) :
    (s.countStale t).now = s.now := rfl
@[simp] theorem State.countStale_planes (s : State) (t : Target) :
    (s.countStale t).planes = s.planes := rfl
@[simp] theorem State.countStale_generation (s : State) (t : Target) :
    (s.countStale t).generation = s.generation := rfl
@[simp] theorem State.countStale_planeState (s : State) (t : Target) :
    (s.countStale t).planeState = s.planeState := rfl
@[simp] theorem State.countStale_refCounts (s : State) (t : Target) :
    (s.countStale t).refCounts = s.refCounts := rfl
@[simp] theorem State.countStale_decrements (s : State) (t : Target) :
    (s.countStale t).decrements = s.decrements := rfl
@[simp] theorem State.countStale_flushReports (s : State) (t : Target) :
    (s.countStale t).flushReports = s.flushReports := rfl
@[simp] theorem State.countStale_announcements (s : State) (t : Target) :
    (s.countStale t).announcements = s.announcements := rfl
@[simp] theorem State.countStale_masters (s : State) (t : Target) :
    (s.countStale t).masters = s.masters := rfl
@[simp] theorem State.countStale_control (s : State) (t : Target) :
    (s.countStale t).control = s.control := rfl
@[simp] theorem State.countStale_ort (s : State) (t : Target) :
    (s.countStale t).ort = s.ort := rfl
@[simp] theorem State.countStale_held (s : State) (t : Target) :
    (s.countStale t).held = s.held := rfl
@[simp] theorem State.countStale_freeBlocks (s : State) (t : Target) :
    (s.countStale t).freeBlocks = s.freeBlocks := rfl
@[simp] theorem State.countStale_lanes (s : State) (t : Target) :
    (s.countStale t).lanes = s.lanes := rfl
@[simp] theorem State.countStale_masterOut (s : State) (t : Target) :
    (s.countStale t).masterOut = s.masterOut := rfl
@[simp] theorem State.countStale_targetOut (s : State) (t : Target) :
    (s.countStale t).targetOut = s.targetOut := rfl
@[simp] theorem State.countStale_choices (s : State) (t : Target) :
    (s.countStale t).choices = s.choices := rfl
@[simp] theorem State.countStale_pending (s : State) (t : Target) :
    (s.countStale t).pending = s.pending := rfl

/-! ### countCreditFault -/
@[simp] theorem State.countCreditFault_pwronN (s : State) (t : Target) :
    (s.countCreditFault t).pwronN = s.pwronN := rfl
@[simp] theorem State.countCreditFault_straps (s : State) (t : Target) :
    (s.countCreditFault t).straps = s.straps := rfl
@[simp] theorem State.countCreditFault_now (s : State) (t : Target) :
    (s.countCreditFault t).now = s.now := rfl
@[simp] theorem State.countCreditFault_planes (s : State) (t : Target) :
    (s.countCreditFault t).planes = s.planes := rfl
@[simp] theorem State.countCreditFault_generation (s : State) (t : Target) :
    (s.countCreditFault t).generation = s.generation := rfl
@[simp] theorem State.countCreditFault_planeState (s : State) (t : Target) :
    (s.countCreditFault t).planeState = s.planeState := rfl
@[simp] theorem State.countCreditFault_refCounts (s : State) (t : Target) :
    (s.countCreditFault t).refCounts = s.refCounts := rfl
@[simp] theorem State.countCreditFault_decrements (s : State) (t : Target) :
    (s.countCreditFault t).decrements = s.decrements := rfl
@[simp] theorem State.countCreditFault_flushReports (s : State) (t : Target) :
    (s.countCreditFault t).flushReports = s.flushReports := rfl
@[simp] theorem State.countCreditFault_announcements (s : State) (t : Target) :
    (s.countCreditFault t).announcements = s.announcements := rfl
@[simp] theorem State.countCreditFault_masters (s : State) (t : Target) :
    (s.countCreditFault t).masters = s.masters := rfl
@[simp] theorem State.countCreditFault_control (s : State) (t : Target) :
    (s.countCreditFault t).control = s.control := rfl
@[simp] theorem State.countCreditFault_ort (s : State) (t : Target) :
    (s.countCreditFault t).ort = s.ort := rfl
@[simp] theorem State.countCreditFault_held (s : State) (t : Target) :
    (s.countCreditFault t).held = s.held := rfl
@[simp] theorem State.countCreditFault_freeBlocks (s : State) (t : Target) :
    (s.countCreditFault t).freeBlocks = s.freeBlocks := rfl
@[simp] theorem State.countCreditFault_lanes (s : State) (t : Target) :
    (s.countCreditFault t).lanes = s.lanes := rfl
@[simp] theorem State.countCreditFault_masterOut (s : State) (t : Target) :
    (s.countCreditFault t).masterOut = s.masterOut := rfl
@[simp] theorem State.countCreditFault_targetOut (s : State) (t : Target) :
    (s.countCreditFault t).targetOut = s.targetOut := rfl
@[simp] theorem State.countCreditFault_choices (s : State) (t : Target) :
    (s.countCreditFault t).choices = s.choices := rfl
@[simp] theorem State.countCreditFault_pending (s : State) (t : Target) :
    (s.countCreditFault t).pending = s.pending := rfl

/-! ### notify -/
@[simp] theorem State.notify_pwronN (s : State) (m : Master) (n : Notice) :
    (s.notify m n).pwronN = s.pwronN := rfl
@[simp] theorem State.notify_straps (s : State) (m : Master) (n : Notice) :
    (s.notify m n).straps = s.straps := rfl
@[simp] theorem State.notify_now (s : State) (m : Master) (n : Notice) :
    (s.notify m n).now = s.now := rfl
@[simp] theorem State.notify_planes (s : State) (m : Master) (n : Notice) :
    (s.notify m n).planes = s.planes := rfl
@[simp] theorem State.notify_generation (s : State) (m : Master) (n : Notice) :
    (s.notify m n).generation = s.generation := rfl
@[simp] theorem State.notify_planeState (s : State) (m : Master) (n : Notice) :
    (s.notify m n).planeState = s.planeState := rfl
@[simp] theorem State.notify_refCounts (s : State) (m : Master) (n : Notice) :
    (s.notify m n).refCounts = s.refCounts := rfl
@[simp] theorem State.notify_decrements (s : State) (m : Master) (n : Notice) :
    (s.notify m n).decrements = s.decrements := rfl
@[simp] theorem State.notify_flushReports (s : State) (m : Master) (n : Notice) :
    (s.notify m n).flushReports = s.flushReports := rfl
@[simp] theorem State.notify_announcements (s : State) (m : Master) (n : Notice) :
    (s.notify m n).announcements = s.announcements := rfl
@[simp] theorem State.notify_control (s : State) (m : Master) (n : Notice) :
    (s.notify m n).control = s.control := rfl
@[simp] theorem State.notify_ort (s : State) (m : Master) (n : Notice) :
    (s.notify m n).ort = s.ort := rfl
@[simp] theorem State.notify_held (s : State) (m : Master) (n : Notice) :
    (s.notify m n).held = s.held := rfl
@[simp] theorem State.notify_freeBlocks (s : State) (m : Master) (n : Notice) :
    (s.notify m n).freeBlocks = s.freeBlocks := rfl
@[simp] theorem State.notify_lanes (s : State) (m : Master) (n : Notice) :
    (s.notify m n).lanes = s.lanes := rfl
@[simp] theorem State.notify_targets (s : State) (m : Master) (n : Notice) :
    (s.notify m n).targets = s.targets := rfl
@[simp] theorem State.notify_masterOut (s : State) (m : Master) (n : Notice) :
    (s.notify m n).masterOut = s.masterOut := rfl
@[simp] theorem State.notify_targetOut (s : State) (m : Master) (n : Notice) :
    (s.notify m n).targetOut = s.targetOut := rfl
@[simp] theorem State.notify_choices (s : State) (m : Master) (n : Notice) :
    (s.notify m n).choices = s.choices := rfl
@[simp] theorem State.notify_pending (s : State) (m : Master) (n : Notice) :
    (s.notify m n).pending = s.pending := rfl

/-! ### notifyAll -/
@[simp] theorem State.notifyAll_pwronN (s : State) (who : Master → Bool) (n : Notice) :
    (s.notifyAll who n).pwronN = s.pwronN := rfl
@[simp] theorem State.notifyAll_straps (s : State) (who : Master → Bool) (n : Notice) :
    (s.notifyAll who n).straps = s.straps := rfl
@[simp] theorem State.notifyAll_now (s : State) (who : Master → Bool) (n : Notice) :
    (s.notifyAll who n).now = s.now := rfl
@[simp] theorem State.notifyAll_planes (s : State) (who : Master → Bool) (n : Notice) :
    (s.notifyAll who n).planes = s.planes := rfl
@[simp] theorem State.notifyAll_generation (s : State) (who : Master → Bool) (n : Notice) :
    (s.notifyAll who n).generation = s.generation := rfl
@[simp] theorem State.notifyAll_planeState (s : State) (who : Master → Bool) (n : Notice) :
    (s.notifyAll who n).planeState = s.planeState := rfl
@[simp] theorem State.notifyAll_refCounts (s : State) (who : Master → Bool) (n : Notice) :
    (s.notifyAll who n).refCounts = s.refCounts := rfl
@[simp] theorem State.notifyAll_decrements (s : State) (who : Master → Bool) (n : Notice) :
    (s.notifyAll who n).decrements = s.decrements := rfl
@[simp] theorem State.notifyAll_flushReports (s : State) (who : Master → Bool) (n : Notice) :
    (s.notifyAll who n).flushReports = s.flushReports := rfl
@[simp] theorem State.notifyAll_announcements (s : State) (who : Master → Bool) (n : Notice) :
    (s.notifyAll who n).announcements = s.announcements := rfl
@[simp] theorem State.notifyAll_control (s : State) (who : Master → Bool) (n : Notice) :
    (s.notifyAll who n).control = s.control := rfl
@[simp] theorem State.notifyAll_ort (s : State) (who : Master → Bool) (n : Notice) :
    (s.notifyAll who n).ort = s.ort := rfl
@[simp] theorem State.notifyAll_held (s : State) (who : Master → Bool) (n : Notice) :
    (s.notifyAll who n).held = s.held := rfl
@[simp] theorem State.notifyAll_freeBlocks (s : State) (who : Master → Bool) (n : Notice) :
    (s.notifyAll who n).freeBlocks = s.freeBlocks := rfl
@[simp] theorem State.notifyAll_lanes (s : State) (who : Master → Bool) (n : Notice) :
    (s.notifyAll who n).lanes = s.lanes := rfl
@[simp] theorem State.notifyAll_targets (s : State) (who : Master → Bool) (n : Notice) :
    (s.notifyAll who n).targets = s.targets := rfl
@[simp] theorem State.notifyAll_masterOut (s : State) (who : Master → Bool) (n : Notice) :
    (s.notifyAll who n).masterOut = s.masterOut := rfl
@[simp] theorem State.notifyAll_targetOut (s : State) (who : Master → Bool) (n : Notice) :
    (s.notifyAll who n).targetOut = s.targetOut := rfl
@[simp] theorem State.notifyAll_choices (s : State) (who : Master → Bool) (n : Notice) :
    (s.notifyAll who n).choices = s.choices := rfl
@[simp] theorem State.notifyAll_pending (s : State) (who : Master → Bool) (n : Notice) :
    (s.notifyAll who n).pending = s.pending := rfl

/-! ### fill -/
@[simp] theorem State.fill_pwronN (s : State) (m : Master) (h : SlotHolder) (x : Response) :
    (s.fill m h x).pwronN = s.pwronN := rfl
@[simp] theorem State.fill_straps (s : State) (m : Master) (h : SlotHolder) (x : Response) :
    (s.fill m h x).straps = s.straps := rfl
@[simp] theorem State.fill_now (s : State) (m : Master) (h : SlotHolder) (x : Response) :
    (s.fill m h x).now = s.now := rfl
@[simp] theorem State.fill_planes (s : State) (m : Master) (h : SlotHolder) (x : Response) :
    (s.fill m h x).planes = s.planes := rfl
@[simp] theorem State.fill_generation (s : State) (m : Master) (h : SlotHolder) (x : Response) :
    (s.fill m h x).generation = s.generation := rfl
@[simp] theorem State.fill_planeState (s : State) (m : Master) (h : SlotHolder) (x : Response) :
    (s.fill m h x).planeState = s.planeState := rfl
@[simp] theorem State.fill_refCounts (s : State) (m : Master) (h : SlotHolder) (x : Response) :
    (s.fill m h x).refCounts = s.refCounts := rfl
@[simp] theorem State.fill_decrements (s : State) (m : Master) (h : SlotHolder) (x : Response) :
    (s.fill m h x).decrements = s.decrements := rfl
@[simp] theorem State.fill_flushReports (s : State) (m : Master) (h : SlotHolder) (x : Response) :
    (s.fill m h x).flushReports = s.flushReports := rfl
@[simp] theorem State.fill_announcements (s : State) (m : Master) (h : SlotHolder) (x : Response) :
    (s.fill m h x).announcements = s.announcements := rfl
@[simp] theorem State.fill_control (s : State) (m : Master) (h : SlotHolder) (x : Response) :
    (s.fill m h x).control = s.control := rfl
@[simp] theorem State.fill_ort (s : State) (m : Master) (h : SlotHolder) (x : Response) :
    (s.fill m h x).ort = s.ort := rfl
@[simp] theorem State.fill_held (s : State) (m : Master) (h : SlotHolder) (x : Response) :
    (s.fill m h x).held = s.held := rfl
@[simp] theorem State.fill_freeBlocks (s : State) (m : Master) (h : SlotHolder) (x : Response) :
    (s.fill m h x).freeBlocks = s.freeBlocks := rfl
@[simp] theorem State.fill_lanes (s : State) (m : Master) (h : SlotHolder) (x : Response) :
    (s.fill m h x).lanes = s.lanes := rfl
@[simp] theorem State.fill_targets (s : State) (m : Master) (h : SlotHolder) (x : Response) :
    (s.fill m h x).targets = s.targets := rfl
@[simp] theorem State.fill_masterOut (s : State) (m : Master) (h : SlotHolder) (x : Response) :
    (s.fill m h x).masterOut = s.masterOut := rfl
@[simp] theorem State.fill_targetOut (s : State) (m : Master) (h : SlotHolder) (x : Response) :
    (s.fill m h x).targetOut = s.targetOut := rfl
@[simp] theorem State.fill_choices (s : State) (m : Master) (h : SlotHolder) (x : Response) :
    (s.fill m h x).choices = s.choices := rfl
@[simp] theorem State.fill_pending (s : State) (m : Master) (h : SlotHolder) (x : Response) :
    (s.fill m h x).pending = s.pending := rfl

/-! ### setHeadPhase -/
@[simp] theorem State.setHeadPhase_pwronN (s : State) (m : Master) (ph : HeadPhase) :
    (s.setHeadPhase m ph).pwronN = s.pwronN := rfl
@[simp] theorem State.setHeadPhase_straps (s : State) (m : Master) (ph : HeadPhase) :
    (s.setHeadPhase m ph).straps = s.straps := rfl
@[simp] theorem State.setHeadPhase_now (s : State) (m : Master) (ph : HeadPhase) :
    (s.setHeadPhase m ph).now = s.now := rfl
@[simp] theorem State.setHeadPhase_planes (s : State) (m : Master) (ph : HeadPhase) :
    (s.setHeadPhase m ph).planes = s.planes := rfl
@[simp] theorem State.setHeadPhase_generation (s : State) (m : Master) (ph : HeadPhase) :
    (s.setHeadPhase m ph).generation = s.generation := rfl
@[simp] theorem State.setHeadPhase_planeState (s : State) (m : Master) (ph : HeadPhase) :
    (s.setHeadPhase m ph).planeState = s.planeState := rfl
@[simp] theorem State.setHeadPhase_refCounts (s : State) (m : Master) (ph : HeadPhase) :
    (s.setHeadPhase m ph).refCounts = s.refCounts := rfl
@[simp] theorem State.setHeadPhase_decrements (s : State) (m : Master) (ph : HeadPhase) :
    (s.setHeadPhase m ph).decrements = s.decrements := rfl
@[simp] theorem State.setHeadPhase_flushReports (s : State) (m : Master) (ph : HeadPhase) :
    (s.setHeadPhase m ph).flushReports = s.flushReports := rfl
@[simp] theorem State.setHeadPhase_announcements (s : State) (m : Master) (ph : HeadPhase) :
    (s.setHeadPhase m ph).announcements = s.announcements := rfl
@[simp] theorem State.setHeadPhase_control (s : State) (m : Master) (ph : HeadPhase) :
    (s.setHeadPhase m ph).control = s.control := rfl
@[simp] theorem State.setHeadPhase_ort (s : State) (m : Master) (ph : HeadPhase) :
    (s.setHeadPhase m ph).ort = s.ort := rfl
@[simp] theorem State.setHeadPhase_held (s : State) (m : Master) (ph : HeadPhase) :
    (s.setHeadPhase m ph).held = s.held := rfl
@[simp] theorem State.setHeadPhase_freeBlocks (s : State) (m : Master) (ph : HeadPhase) :
    (s.setHeadPhase m ph).freeBlocks = s.freeBlocks := rfl
@[simp] theorem State.setHeadPhase_lanes (s : State) (m : Master) (ph : HeadPhase) :
    (s.setHeadPhase m ph).lanes = s.lanes := rfl
@[simp] theorem State.setHeadPhase_targets (s : State) (m : Master) (ph : HeadPhase) :
    (s.setHeadPhase m ph).targets = s.targets := rfl
@[simp] theorem State.setHeadPhase_masterOut (s : State) (m : Master) (ph : HeadPhase) :
    (s.setHeadPhase m ph).masterOut = s.masterOut := rfl
@[simp] theorem State.setHeadPhase_targetOut (s : State) (m : Master) (ph : HeadPhase) :
    (s.setHeadPhase m ph).targetOut = s.targetOut := rfl
@[simp] theorem State.setHeadPhase_choices (s : State) (m : Master) (ph : HeadPhase) :
    (s.setHeadPhase m ph).choices = s.choices := rfl
@[simp] theorem State.setHeadPhase_pending (s : State) (m : Master) (ph : HeadPhase) :
    (s.setHeadPhase m ph).pending = s.pending := rfl

end Sys2Proof.Machine
end

