-- ==== Sys2Proof/Laws/Routing.lean ====
section
/-! SUPPORT. What becoming head, arriving and leaving leave unchanged, and what routing a new
head does. -/

namespace Sys2Proof.Machine

/-! ### routeNewHead -/
@[simp] theorem State.routeNewHead_pwronN (s : State) (m : Master) :
    (s.routeNewHead m).pwronN = s.pwronN := by
  simp only [State.routeNewHead]; repeat (first | rfl | split | simp)
@[simp] theorem State.routeNewHead_straps (s : State) (m : Master) :
    (s.routeNewHead m).straps = s.straps := by
  simp only [State.routeNewHead]; repeat (first | rfl | split | simp)
@[simp] theorem State.routeNewHead_now (s : State) (m : Master) :
    (s.routeNewHead m).now = s.now := by
  simp only [State.routeNewHead]; repeat (first | rfl | split | simp)
@[simp] theorem State.routeNewHead_planes (s : State) (m : Master) :
    (s.routeNewHead m).planes = s.planes := by
  simp only [State.routeNewHead]; repeat (first | rfl | split | simp)
@[simp] theorem State.routeNewHead_generation (s : State) (m : Master) :
    (s.routeNewHead m).generation = s.generation := by
  simp only [State.routeNewHead]; repeat (first | rfl | split | simp)
@[simp] theorem State.routeNewHead_planeState (s : State) (m : Master) :
    (s.routeNewHead m).planeState = s.planeState := by
  simp only [State.routeNewHead]; repeat (first | rfl | split | simp)
@[simp] theorem State.routeNewHead_refCounts (s : State) (m : Master) :
    (s.routeNewHead m).refCounts = s.refCounts := by
  simp only [State.routeNewHead]; repeat (first | rfl | split | simp)
@[simp] theorem State.routeNewHead_decrements (s : State) (m : Master) :
    (s.routeNewHead m).decrements = s.decrements := by
  simp only [State.routeNewHead]; repeat (first | rfl | split | simp)
@[simp] theorem State.routeNewHead_flushReports (s : State) (m : Master) :
    (s.routeNewHead m).flushReports = s.flushReports := by
  simp only [State.routeNewHead]; repeat (first | rfl | split | simp)
@[simp] theorem State.routeNewHead_announcements (s : State) (m : Master) :
    (s.routeNewHead m).announcements = s.announcements := by
  simp only [State.routeNewHead]; repeat (first | rfl | split | simp)
@[simp] theorem State.routeNewHead_control (s : State) (m : Master) :
    (s.routeNewHead m).control = s.control := by
  simp only [State.routeNewHead]; repeat (first | rfl | split | simp)
@[simp] theorem State.routeNewHead_ort (s : State) (m : Master) :
    (s.routeNewHead m).ort = s.ort := by
  simp only [State.routeNewHead]; repeat (first | rfl | split | simp)
@[simp] theorem State.routeNewHead_held (s : State) (m : Master) :
    (s.routeNewHead m).held = s.held := by
  simp only [State.routeNewHead]; repeat (first | rfl | split | simp)
@[simp] theorem State.routeNewHead_freeBlocks (s : State) (m : Master) :
    (s.routeNewHead m).freeBlocks = s.freeBlocks := by
  simp only [State.routeNewHead]; repeat (first | rfl | split | simp)
@[simp] theorem State.routeNewHead_lanes (s : State) (m : Master) :
    (s.routeNewHead m).lanes = s.lanes := by
  simp only [State.routeNewHead]; repeat (first | rfl | split | simp)
@[simp] theorem State.routeNewHead_targets (s : State) (m : Master) :
    (s.routeNewHead m).targets = s.targets := by
  simp only [State.routeNewHead]; repeat (first | rfl | split | simp)
@[simp] theorem State.routeNewHead_masterOut (s : State) (m : Master) :
    (s.routeNewHead m).masterOut = s.masterOut := by
  simp only [State.routeNewHead]; repeat (first | rfl | split | simp)
@[simp] theorem State.routeNewHead_targetOut (s : State) (m : Master) :
    (s.routeNewHead m).targetOut = s.targetOut := by
  simp only [State.routeNewHead]; repeat (first | rfl | split | simp)
@[simp] theorem State.routeNewHead_choices (s : State) (m : Master) :
    (s.routeNewHead m).choices = s.choices := by
  simp only [State.routeNewHead]; repeat (first | rfl | split | simp)
@[simp] theorem State.routeNewHead_pending (s : State) (m : Master) :
    (s.routeNewHead m).pending = s.pending := by
  simp only [State.routeNewHead]; repeat (first | rfl | split | simp)

/-! ### takeData -/
@[simp] theorem State.takeData_pwronN (s : State) (m : Master) (k : DataPacket) :
    (s.takeData m k).pwronN = s.pwronN := by
  simp only [State.takeData]; repeat (first | rfl | split | simp)
@[simp] theorem State.takeData_straps (s : State) (m : Master) (k : DataPacket) :
    (s.takeData m k).straps = s.straps := by
  simp only [State.takeData]; repeat (first | rfl | split | simp)
@[simp] theorem State.takeData_now (s : State) (m : Master) (k : DataPacket) :
    (s.takeData m k).now = s.now := by
  simp only [State.takeData]; repeat (first | rfl | split | simp)
@[simp] theorem State.takeData_planes (s : State) (m : Master) (k : DataPacket) :
    (s.takeData m k).planes = s.planes := by
  simp only [State.takeData]; repeat (first | rfl | split | simp)
@[simp] theorem State.takeData_generation (s : State) (m : Master) (k : DataPacket) :
    (s.takeData m k).generation = s.generation := by
  simp only [State.takeData]; repeat (first | rfl | split | simp)
@[simp] theorem State.takeData_planeState (s : State) (m : Master) (k : DataPacket) :
    (s.takeData m k).planeState = s.planeState := by
  simp only [State.takeData]; repeat (first | rfl | split | simp)
@[simp] theorem State.takeData_refCounts (s : State) (m : Master) (k : DataPacket) :
    (s.takeData m k).refCounts = s.refCounts := by
  simp only [State.takeData]; repeat (first | rfl | split | simp)
@[simp] theorem State.takeData_decrements (s : State) (m : Master) (k : DataPacket) :
    (s.takeData m k).decrements = s.decrements := by
  simp only [State.takeData]; repeat (first | rfl | split | simp)
@[simp] theorem State.takeData_flushReports (s : State) (m : Master) (k : DataPacket) :
    (s.takeData m k).flushReports = s.flushReports := by
  simp only [State.takeData]; repeat (first | rfl | split | simp)
@[simp] theorem State.takeData_announcements (s : State) (m : Master) (k : DataPacket) :
    (s.takeData m k).announcements = s.announcements := by
  simp only [State.takeData]; repeat (first | rfl | split | simp)
@[simp] theorem State.takeData_control (s : State) (m : Master) (k : DataPacket) :
    (s.takeData m k).control = s.control := by
  simp only [State.takeData]; repeat (first | rfl | split | simp)
@[simp] theorem State.takeData_ort (s : State) (m : Master) (k : DataPacket) :
    (s.takeData m k).ort = s.ort := by
  simp only [State.takeData]; repeat (first | rfl | split | simp)
@[simp] theorem State.takeData_held (s : State) (m : Master) (k : DataPacket) :
    (s.takeData m k).held = s.held := by
  simp only [State.takeData]; repeat (first | rfl | split | simp)
@[simp] theorem State.takeData_freeBlocks (s : State) (m : Master) (k : DataPacket) :
    (s.takeData m k).freeBlocks = s.freeBlocks := by
  simp only [State.takeData]; repeat (first | rfl | split | simp)
@[simp] theorem State.takeData_lanes (s : State) (m : Master) (k : DataPacket) :
    (s.takeData m k).lanes = s.lanes := by
  simp only [State.takeData]; repeat (first | rfl | split | simp)
@[simp] theorem State.takeData_targets (s : State) (m : Master) (k : DataPacket) :
    (s.takeData m k).targets = s.targets := by
  simp only [State.takeData]; repeat (first | rfl | split | simp)
@[simp] theorem State.takeData_masterOut (s : State) (m : Master) (k : DataPacket) :
    (s.takeData m k).masterOut = s.masterOut := by
  simp only [State.takeData]; repeat (first | rfl | split | simp)
@[simp] theorem State.takeData_targetOut (s : State) (m : Master) (k : DataPacket) :
    (s.takeData m k).targetOut = s.targetOut := by
  simp only [State.takeData]; repeat (first | rfl | split | simp)
@[simp] theorem State.takeData_choices (s : State) (m : Master) (k : DataPacket) :
    (s.takeData m k).choices = s.choices := by
  simp only [State.takeData]; repeat (first | rfl | split | simp)
@[simp] theorem State.takeData_pending (s : State) (m : Master) (k : DataPacket) :
    (s.takeData m k).pending = s.pending := by
  simp only [State.takeData]; repeat (first | rfl | split | simp)

/-! ### dataLeaves -/
@[simp] theorem State.dataLeaves_pwronN (s : State) (m : Master) :
    (s.dataLeaves m).pwronN = s.pwronN := by
  simp [State.dataLeaves]
@[simp] theorem State.dataLeaves_straps (s : State) (m : Master) :
    (s.dataLeaves m).straps = s.straps := by
  simp [State.dataLeaves]
@[simp] theorem State.dataLeaves_now (s : State) (m : Master) :
    (s.dataLeaves m).now = s.now := by
  simp [State.dataLeaves]
@[simp] theorem State.dataLeaves_planes (s : State) (m : Master) :
    (s.dataLeaves m).planes = s.planes := by
  simp [State.dataLeaves]
@[simp] theorem State.dataLeaves_generation (s : State) (m : Master) :
    (s.dataLeaves m).generation = s.generation := by
  simp [State.dataLeaves]
@[simp] theorem State.dataLeaves_planeState (s : State) (m : Master) :
    (s.dataLeaves m).planeState = s.planeState := by
  simp [State.dataLeaves]
@[simp] theorem State.dataLeaves_refCounts (s : State) (m : Master) :
    (s.dataLeaves m).refCounts = s.refCounts := by
  simp [State.dataLeaves]
@[simp] theorem State.dataLeaves_decrements (s : State) (m : Master) :
    (s.dataLeaves m).decrements = s.decrements := by
  simp [State.dataLeaves]
@[simp] theorem State.dataLeaves_flushReports (s : State) (m : Master) :
    (s.dataLeaves m).flushReports = s.flushReports := by
  simp [State.dataLeaves]
@[simp] theorem State.dataLeaves_announcements (s : State) (m : Master) :
    (s.dataLeaves m).announcements = s.announcements := by
  simp [State.dataLeaves]
@[simp] theorem State.dataLeaves_control (s : State) (m : Master) :
    (s.dataLeaves m).control = s.control := by
  simp [State.dataLeaves]
@[simp] theorem State.dataLeaves_ort (s : State) (m : Master) :
    (s.dataLeaves m).ort = s.ort := by
  simp [State.dataLeaves]
@[simp] theorem State.dataLeaves_held (s : State) (m : Master) :
    (s.dataLeaves m).held = s.held := by
  simp [State.dataLeaves]
@[simp] theorem State.dataLeaves_freeBlocks (s : State) (m : Master) :
    (s.dataLeaves m).freeBlocks = s.freeBlocks := by
  simp [State.dataLeaves]
@[simp] theorem State.dataLeaves_lanes (s : State) (m : Master) :
    (s.dataLeaves m).lanes = s.lanes := by
  simp [State.dataLeaves]
@[simp] theorem State.dataLeaves_targets (s : State) (m : Master) :
    (s.dataLeaves m).targets = s.targets := by
  simp [State.dataLeaves]
@[simp] theorem State.dataLeaves_masterOut (s : State) (m : Master) :
    (s.dataLeaves m).masterOut = s.masterOut := by
  simp [State.dataLeaves]
@[simp] theorem State.dataLeaves_targetOut (s : State) (m : Master) :
    (s.dataLeaves m).targetOut = s.targetOut := by
  simp [State.dataLeaves]
@[simp] theorem State.dataLeaves_choices (s : State) (m : Master) :
    (s.dataLeaves m).choices = s.choices := by
  simp [State.dataLeaves]
@[simp] theorem State.dataLeaves_pending (s : State) (m : Master) :
    (s.dataLeaves m).pending = s.pending := by
  simp [State.dataLeaves]

/-! ### What routing a new head does -/

/-- Routing a new head sets the phase of a READ or WRITE and does nothing else (R55, R68). -/
theorem State.routeNewHead_cases (s : State) (m : Master) :
    (s.headRequest m = none ∧ s.routeNewHead m = s) ∨
    ∃ q, s.headRequest m = some q ∧ s.routeNewHead m = s.setHeadPhase m (s.routePhase m q) := by
  unfold State.routeNewHead
  cases h : s.headRequest m with
  | none => exact .inl ⟨rfl, rfl⟩
  | some q => exact .inr ⟨q, rfl, rfl⟩

/-- What a new head's routing keeps: any part of the state that no head phase reaches. -/
theorem State.routeNewHead_keeps {α : Type} (g : State → α) (m : Master)
    (h : ∀ s ph, g (s.setHeadPhase m ph) = g s) (s : State) : g (s.routeNewHead m) = g s := by
  rcases s.routeNewHead_cases m with ⟨_, e⟩ | ⟨q, _, e⟩
  · rw [e]
  · rw [e, h]

/-- A head's request depends on its port's state and queue alone. -/
theorem State.headRequest_congr {s t : State} {m : Master} (h : (s.port m).state = (t.port m).state)
    (k : (s.port m).ingress.dataQueue = (t.port m).ingress.dataQueue) :
    s.headRequest m = t.headRequest m := by
  unfold State.headRequest State.dataHead State.isActive
  rw [h, k]

/-- A phase is found from the Plane Controller, the planes, the target ports and the ORT alone (R55). -/
theorem State.routePhase_congr {s t : State} (h1 : s.planeState = t.planeState)
    (h2 : s.planes = t.planes) (h3 : s.generation = t.generation) (h4 : s.targets = t.targets)
    (h5 : s.ort = t.ort) (m : Master) (q : Request) : s.routePhase m q = t.routePhase m q := by
  cases s
  cases t
  subst h1 h2 h3 h4 h5
  rfl

/-- Only a head with its length in range waits UNROUTED, and only in HOLDING (R54). -/
theorem State.routePhase_unrouted {s : State} {m : Master} {q : Request}
    (h : s.routePhase m q = .unrouted) : s.planeState.isHolding = true ∧ 1 ≤ q.length ∧ q.length ≤ 256 := by
  simp only [State.routePhase] at h
  split at h
  · cases h
  · next hl =>
    split at h
    · next hp => exact ⟨hp, by omega⟩
    · split at h
      · cases h
      · cases h
      · cases h
      · split at h
        · cases h
        · split at h <;> cases h

end Sys2Proof.Machine
end

