-- ==== Sys2Proof/Laws/Ort.lean ====
section
/-! SUPPORT. What the ORT's and the Fence Tracker's shared operations leave unchanged. -/

namespace Sys2Proof.Machine

/-- A fold of an operation that keeps a part of the state keeps it. -/
theorem foldl_keeps {α β γ : Type} {f : α → β → α} (g : α → γ) (h : ∀ a b, g (f a b) = g a)
    (l : List β) (a : α) : g (l.foldl f a) = g a := by
  induction l generalizing a with
  | nil => rfl
  | cons b l ih => rw [List.foldl_cons, ih, h]

/-- A fold of an operation that keeps a law keeps the law. -/
theorem foldl_keeps_law {α β : Type} {f : α → β → α} (P : α → Prop) (h : ∀ a b, P a → P (f a b))
    (l : List β) (a : α) (ha : P a) : P (l.foldl f a) := by
  induction l generalizing a with
  | nil => exact ha
  | cons b l ih => exact ih _ (h a b ha)

/-! ### finishFence -/
@[simp] theorem State.finishFence_pwronN (s : State) (m : Master) (f : Fence) :
    (s.finishFence m f).pwronN = s.pwronN := rfl
@[simp] theorem State.finishFence_straps (s : State) (m : Master) (f : Fence) :
    (s.finishFence m f).straps = s.straps := rfl
@[simp] theorem State.finishFence_now (s : State) (m : Master) (f : Fence) :
    (s.finishFence m f).now = s.now := rfl
@[simp] theorem State.finishFence_planes (s : State) (m : Master) (f : Fence) :
    (s.finishFence m f).planes = s.planes := rfl
@[simp] theorem State.finishFence_generation (s : State) (m : Master) (f : Fence) :
    (s.finishFence m f).generation = s.generation := rfl
@[simp] theorem State.finishFence_planeState (s : State) (m : Master) (f : Fence) :
    (s.finishFence m f).planeState = s.planeState := rfl
@[simp] theorem State.finishFence_refCounts (s : State) (m : Master) (f : Fence) :
    (s.finishFence m f).refCounts = s.refCounts := rfl
@[simp] theorem State.finishFence_decrements (s : State) (m : Master) (f : Fence) :
    (s.finishFence m f).decrements = s.decrements := rfl
@[simp] theorem State.finishFence_flushReports (s : State) (m : Master) (f : Fence) :
    (s.finishFence m f).flushReports = s.flushReports := rfl
@[simp] theorem State.finishFence_announcements (s : State) (m : Master) (f : Fence) :
    (s.finishFence m f).announcements = s.announcements := rfl
@[simp] theorem State.finishFence_control (s : State) (m : Master) (f : Fence) :
    (s.finishFence m f).control = s.control := rfl
@[simp] theorem State.finishFence_ort (s : State) (m : Master) (f : Fence) :
    (s.finishFence m f).ort = s.ort := rfl
@[simp] theorem State.finishFence_held (s : State) (m : Master) (f : Fence) :
    (s.finishFence m f).held = s.held := rfl
@[simp] theorem State.finishFence_freeBlocks (s : State) (m : Master) (f : Fence) :
    (s.finishFence m f).freeBlocks = s.freeBlocks := rfl
@[simp] theorem State.finishFence_lanes (s : State) (m : Master) (f : Fence) :
    (s.finishFence m f).lanes = s.lanes := rfl
@[simp] theorem State.finishFence_targets (s : State) (m : Master) (f : Fence) :
    (s.finishFence m f).targets = s.targets := rfl
@[simp] theorem State.finishFence_masterOut (s : State) (m : Master) (f : Fence) :
    (s.finishFence m f).masterOut = s.masterOut := rfl
@[simp] theorem State.finishFence_targetOut (s : State) (m : Master) (f : Fence) :
    (s.finishFence m f).targetOut = s.targetOut := rfl
@[simp] theorem State.finishFence_choices (s : State) (m : Master) (f : Fence) :
    (s.finishFence m f).choices = s.choices := rfl
@[simp] theorem State.finishFence_pending (s : State) (m : Master) (f : Fence) :
    (s.finishFence m f).pending = s.pending := rfl

/-! ### takeFence -/
@[simp] theorem State.takeFence_pwronN (s : State) (m : Master) (tag : Tag) :
    (s.takeFence m tag).pwronN = s.pwronN := by
  simp only [State.takeFence]; repeat (first | rfl | split | simp)
@[simp] theorem State.takeFence_straps (s : State) (m : Master) (tag : Tag) :
    (s.takeFence m tag).straps = s.straps := by
  simp only [State.takeFence]; repeat (first | rfl | split | simp)
@[simp] theorem State.takeFence_now (s : State) (m : Master) (tag : Tag) :
    (s.takeFence m tag).now = s.now := by
  simp only [State.takeFence]; repeat (first | rfl | split | simp)
@[simp] theorem State.takeFence_planes (s : State) (m : Master) (tag : Tag) :
    (s.takeFence m tag).planes = s.planes := by
  simp only [State.takeFence]; repeat (first | rfl | split | simp)
@[simp] theorem State.takeFence_generation (s : State) (m : Master) (tag : Tag) :
    (s.takeFence m tag).generation = s.generation := by
  simp only [State.takeFence]; repeat (first | rfl | split | simp)
@[simp] theorem State.takeFence_planeState (s : State) (m : Master) (tag : Tag) :
    (s.takeFence m tag).planeState = s.planeState := by
  simp only [State.takeFence]; repeat (first | rfl | split | simp)
@[simp] theorem State.takeFence_refCounts (s : State) (m : Master) (tag : Tag) :
    (s.takeFence m tag).refCounts = s.refCounts := by
  simp only [State.takeFence]; repeat (first | rfl | split | simp)
@[simp] theorem State.takeFence_decrements (s : State) (m : Master) (tag : Tag) :
    (s.takeFence m tag).decrements = s.decrements := by
  simp only [State.takeFence]; repeat (first | rfl | split | simp)
@[simp] theorem State.takeFence_flushReports (s : State) (m : Master) (tag : Tag) :
    (s.takeFence m tag).flushReports = s.flushReports := by
  simp only [State.takeFence]; repeat (first | rfl | split | simp)
@[simp] theorem State.takeFence_announcements (s : State) (m : Master) (tag : Tag) :
    (s.takeFence m tag).announcements = s.announcements := by
  simp only [State.takeFence]; repeat (first | rfl | split | simp)
@[simp] theorem State.takeFence_control (s : State) (m : Master) (tag : Tag) :
    (s.takeFence m tag).control = s.control := by
  simp only [State.takeFence]; repeat (first | rfl | split | simp)
@[simp] theorem State.takeFence_ort (s : State) (m : Master) (tag : Tag) :
    (s.takeFence m tag).ort = s.ort := by
  simp only [State.takeFence]; repeat (first | rfl | split | simp)
@[simp] theorem State.takeFence_held (s : State) (m : Master) (tag : Tag) :
    (s.takeFence m tag).held = s.held := by
  simp only [State.takeFence]; repeat (first | rfl | split | simp)
@[simp] theorem State.takeFence_freeBlocks (s : State) (m : Master) (tag : Tag) :
    (s.takeFence m tag).freeBlocks = s.freeBlocks := by
  simp only [State.takeFence]; repeat (first | rfl | split | simp)
@[simp] theorem State.takeFence_lanes (s : State) (m : Master) (tag : Tag) :
    (s.takeFence m tag).lanes = s.lanes := by
  simp only [State.takeFence]; repeat (first | rfl | split | simp)
@[simp] theorem State.takeFence_targets (s : State) (m : Master) (tag : Tag) :
    (s.takeFence m tag).targets = s.targets := by
  simp only [State.takeFence]; repeat (first | rfl | split | simp)
@[simp] theorem State.takeFence_masterOut (s : State) (m : Master) (tag : Tag) :
    (s.takeFence m tag).masterOut = s.masterOut := by
  simp only [State.takeFence]; repeat (first | rfl | split | simp)
@[simp] theorem State.takeFence_targetOut (s : State) (m : Master) (tag : Tag) :
    (s.takeFence m tag).targetOut = s.targetOut := by
  simp only [State.takeFence]; repeat (first | rfl | split | simp)
@[simp] theorem State.takeFence_choices (s : State) (m : Master) (tag : Tag) :
    (s.takeFence m tag).choices = s.choices := by
  simp only [State.takeFence]; repeat (first | rfl | split | simp)
@[simp] theorem State.takeFence_pending (s : State) (m : Master) (tag : Tag) :
    (s.takeFence m tag).pending = s.pending := by
  simp only [State.takeFence]; repeat (first | rfl | split | simp)

/-! ### takeReadyFence -/
@[simp] theorem State.takeReadyFence_pwronN (s : State) (m : Master) :
    (s.takeReadyFence m).pwronN = s.pwronN := by
  simp only [State.takeReadyFence]; repeat (first | rfl | split | simp)
@[simp] theorem State.takeReadyFence_straps (s : State) (m : Master) :
    (s.takeReadyFence m).straps = s.straps := by
  simp only [State.takeReadyFence]; repeat (first | rfl | split | simp)
@[simp] theorem State.takeReadyFence_now (s : State) (m : Master) :
    (s.takeReadyFence m).now = s.now := by
  simp only [State.takeReadyFence]; repeat (first | rfl | split | simp)
@[simp] theorem State.takeReadyFence_planes (s : State) (m : Master) :
    (s.takeReadyFence m).planes = s.planes := by
  simp only [State.takeReadyFence]; repeat (first | rfl | split | simp)
@[simp] theorem State.takeReadyFence_generation (s : State) (m : Master) :
    (s.takeReadyFence m).generation = s.generation := by
  simp only [State.takeReadyFence]; repeat (first | rfl | split | simp)
@[simp] theorem State.takeReadyFence_planeState (s : State) (m : Master) :
    (s.takeReadyFence m).planeState = s.planeState := by
  simp only [State.takeReadyFence]; repeat (first | rfl | split | simp)
@[simp] theorem State.takeReadyFence_refCounts (s : State) (m : Master) :
    (s.takeReadyFence m).refCounts = s.refCounts := by
  simp only [State.takeReadyFence]; repeat (first | rfl | split | simp)
@[simp] theorem State.takeReadyFence_decrements (s : State) (m : Master) :
    (s.takeReadyFence m).decrements = s.decrements := by
  simp only [State.takeReadyFence]; repeat (first | rfl | split | simp)
@[simp] theorem State.takeReadyFence_flushReports (s : State) (m : Master) :
    (s.takeReadyFence m).flushReports = s.flushReports := by
  simp only [State.takeReadyFence]; repeat (first | rfl | split | simp)
@[simp] theorem State.takeReadyFence_announcements (s : State) (m : Master) :
    (s.takeReadyFence m).announcements = s.announcements := by
  simp only [State.takeReadyFence]; repeat (first | rfl | split | simp)
@[simp] theorem State.takeReadyFence_control (s : State) (m : Master) :
    (s.takeReadyFence m).control = s.control := by
  simp only [State.takeReadyFence]; repeat (first | rfl | split | simp)
@[simp] theorem State.takeReadyFence_ort (s : State) (m : Master) :
    (s.takeReadyFence m).ort = s.ort := by
  simp only [State.takeReadyFence]; repeat (first | rfl | split | simp)
@[simp] theorem State.takeReadyFence_held (s : State) (m : Master) :
    (s.takeReadyFence m).held = s.held := by
  simp only [State.takeReadyFence]; repeat (first | rfl | split | simp)
@[simp] theorem State.takeReadyFence_freeBlocks (s : State) (m : Master) :
    (s.takeReadyFence m).freeBlocks = s.freeBlocks := by
  simp only [State.takeReadyFence]; repeat (first | rfl | split | simp)
@[simp] theorem State.takeReadyFence_lanes (s : State) (m : Master) :
    (s.takeReadyFence m).lanes = s.lanes := by
  simp only [State.takeReadyFence]; repeat (first | rfl | split | simp)
@[simp] theorem State.takeReadyFence_targets (s : State) (m : Master) :
    (s.takeReadyFence m).targets = s.targets := by
  simp only [State.takeReadyFence]; repeat (first | rfl | split | simp)
@[simp] theorem State.takeReadyFence_masterOut (s : State) (m : Master) :
    (s.takeReadyFence m).masterOut = s.masterOut := by
  simp only [State.takeReadyFence]; repeat (first | rfl | split | simp)
@[simp] theorem State.takeReadyFence_targetOut (s : State) (m : Master) :
    (s.takeReadyFence m).targetOut = s.targetOut := by
  simp only [State.takeReadyFence]; repeat (first | rfl | split | simp)
@[simp] theorem State.takeReadyFence_choices (s : State) (m : Master) :
    (s.takeReadyFence m).choices = s.choices := by
  simp only [State.takeReadyFence]; repeat (first | rfl | split | simp)
@[simp] theorem State.takeReadyFence_pending (s : State) (m : Master) :
    (s.takeReadyFence m).pending = s.pending := by
  simp only [State.takeReadyFence]; repeat (first | rfl | split | simp)

/-! ### completeFence -/
@[simp] theorem State.completeFence_pwronN (s : State) (m : Master) (f : Fence) :
    (s.completeFence m f).pwronN = s.pwronN := by
  simp [State.completeFence]
@[simp] theorem State.completeFence_straps (s : State) (m : Master) (f : Fence) :
    (s.completeFence m f).straps = s.straps := by
  simp [State.completeFence]
@[simp] theorem State.completeFence_now (s : State) (m : Master) (f : Fence) :
    (s.completeFence m f).now = s.now := by
  simp [State.completeFence]
@[simp] theorem State.completeFence_planes (s : State) (m : Master) (f : Fence) :
    (s.completeFence m f).planes = s.planes := by
  simp [State.completeFence]
@[simp] theorem State.completeFence_generation (s : State) (m : Master) (f : Fence) :
    (s.completeFence m f).generation = s.generation := by
  simp [State.completeFence]
@[simp] theorem State.completeFence_planeState (s : State) (m : Master) (f : Fence) :
    (s.completeFence m f).planeState = s.planeState := by
  simp [State.completeFence]
@[simp] theorem State.completeFence_refCounts (s : State) (m : Master) (f : Fence) :
    (s.completeFence m f).refCounts = s.refCounts := by
  simp [State.completeFence]
@[simp] theorem State.completeFence_decrements (s : State) (m : Master) (f : Fence) :
    (s.completeFence m f).decrements = s.decrements := by
  simp [State.completeFence]
@[simp] theorem State.completeFence_flushReports (s : State) (m : Master) (f : Fence) :
    (s.completeFence m f).flushReports = s.flushReports := by
  simp [State.completeFence]
@[simp] theorem State.completeFence_announcements (s : State) (m : Master) (f : Fence) :
    (s.completeFence m f).announcements = s.announcements := by
  simp [State.completeFence]
@[simp] theorem State.completeFence_control (s : State) (m : Master) (f : Fence) :
    (s.completeFence m f).control = s.control := by
  simp [State.completeFence]
@[simp] theorem State.completeFence_ort (s : State) (m : Master) (f : Fence) :
    (s.completeFence m f).ort = s.ort := by
  simp [State.completeFence]
@[simp] theorem State.completeFence_held (s : State) (m : Master) (f : Fence) :
    (s.completeFence m f).held = s.held := by
  simp [State.completeFence]
@[simp] theorem State.completeFence_freeBlocks (s : State) (m : Master) (f : Fence) :
    (s.completeFence m f).freeBlocks = s.freeBlocks := by
  simp [State.completeFence]
@[simp] theorem State.completeFence_lanes (s : State) (m : Master) (f : Fence) :
    (s.completeFence m f).lanes = s.lanes := by
  simp [State.completeFence]
@[simp] theorem State.completeFence_targets (s : State) (m : Master) (f : Fence) :
    (s.completeFence m f).targets = s.targets := by
  simp [State.completeFence]
@[simp] theorem State.completeFence_masterOut (s : State) (m : Master) (f : Fence) :
    (s.completeFence m f).masterOut = s.masterOut := by
  simp [State.completeFence]
@[simp] theorem State.completeFence_targetOut (s : State) (m : Master) (f : Fence) :
    (s.completeFence m f).targetOut = s.targetOut := by
  simp [State.completeFence]
@[simp] theorem State.completeFence_choices (s : State) (m : Master) (f : Fence) :
    (s.completeFence m f).choices = s.choices := by
  simp [State.completeFence]
@[simp] theorem State.completeFence_pending (s : State) (m : Master) (f : Fence) :
    (s.completeFence m f).pending = s.pending := by
  simp [State.completeFence]

/-! ### fenceReport -/
@[simp] theorem State.fenceReport_pwronN (s : State) (m : Master) (i : OrtIndex) (failed : Bool) :
    (s.fenceReport m i failed).pwronN = s.pwronN := by
  simp only [State.fenceReport]; repeat (first | rfl | split | simp)
@[simp] theorem State.fenceReport_straps (s : State) (m : Master) (i : OrtIndex) (failed : Bool) :
    (s.fenceReport m i failed).straps = s.straps := by
  simp only [State.fenceReport]; repeat (first | rfl | split | simp)
@[simp] theorem State.fenceReport_now (s : State) (m : Master) (i : OrtIndex) (failed : Bool) :
    (s.fenceReport m i failed).now = s.now := by
  simp only [State.fenceReport]; repeat (first | rfl | split | simp)
@[simp] theorem State.fenceReport_planes (s : State) (m : Master) (i : OrtIndex) (failed : Bool) :
    (s.fenceReport m i failed).planes = s.planes := by
  simp only [State.fenceReport]; repeat (first | rfl | split | simp)
@[simp] theorem State.fenceReport_generation (s : State) (m : Master) (i : OrtIndex) (failed : Bool) :
    (s.fenceReport m i failed).generation = s.generation := by
  simp only [State.fenceReport]; repeat (first | rfl | split | simp)
@[simp] theorem State.fenceReport_planeState (s : State) (m : Master) (i : OrtIndex) (failed : Bool) :
    (s.fenceReport m i failed).planeState = s.planeState := by
  simp only [State.fenceReport]; repeat (first | rfl | split | simp)
@[simp] theorem State.fenceReport_refCounts (s : State) (m : Master) (i : OrtIndex) (failed : Bool) :
    (s.fenceReport m i failed).refCounts = s.refCounts := by
  simp only [State.fenceReport]; repeat (first | rfl | split | simp)
@[simp] theorem State.fenceReport_decrements (s : State) (m : Master) (i : OrtIndex) (failed : Bool) :
    (s.fenceReport m i failed).decrements = s.decrements := by
  simp only [State.fenceReport]; repeat (first | rfl | split | simp)
@[simp] theorem State.fenceReport_flushReports (s : State) (m : Master) (i : OrtIndex) (failed : Bool) :
    (s.fenceReport m i failed).flushReports = s.flushReports := by
  simp only [State.fenceReport]; repeat (first | rfl | split | simp)
@[simp] theorem State.fenceReport_announcements (s : State) (m : Master) (i : OrtIndex) (failed : Bool) :
    (s.fenceReport m i failed).announcements = s.announcements := by
  simp only [State.fenceReport]; repeat (first | rfl | split | simp)
@[simp] theorem State.fenceReport_control (s : State) (m : Master) (i : OrtIndex) (failed : Bool) :
    (s.fenceReport m i failed).control = s.control := by
  simp only [State.fenceReport]; repeat (first | rfl | split | simp)
@[simp] theorem State.fenceReport_ort (s : State) (m : Master) (i : OrtIndex) (failed : Bool) :
    (s.fenceReport m i failed).ort = s.ort := by
  simp only [State.fenceReport]; repeat (first | rfl | split | simp)
@[simp] theorem State.fenceReport_held (s : State) (m : Master) (i : OrtIndex) (failed : Bool) :
    (s.fenceReport m i failed).held = s.held := by
  simp only [State.fenceReport]; repeat (first | rfl | split | simp)
@[simp] theorem State.fenceReport_freeBlocks (s : State) (m : Master) (i : OrtIndex) (failed : Bool) :
    (s.fenceReport m i failed).freeBlocks = s.freeBlocks := by
  simp only [State.fenceReport]; repeat (first | rfl | split | simp)
@[simp] theorem State.fenceReport_lanes (s : State) (m : Master) (i : OrtIndex) (failed : Bool) :
    (s.fenceReport m i failed).lanes = s.lanes := by
  simp only [State.fenceReport]; repeat (first | rfl | split | simp)
@[simp] theorem State.fenceReport_targets (s : State) (m : Master) (i : OrtIndex) (failed : Bool) :
    (s.fenceReport m i failed).targets = s.targets := by
  simp only [State.fenceReport]; repeat (first | rfl | split | simp)
@[simp] theorem State.fenceReport_masterOut (s : State) (m : Master) (i : OrtIndex) (failed : Bool) :
    (s.fenceReport m i failed).masterOut = s.masterOut := by
  simp only [State.fenceReport]; repeat (first | rfl | split | simp)
@[simp] theorem State.fenceReport_targetOut (s : State) (m : Master) (i : OrtIndex) (failed : Bool) :
    (s.fenceReport m i failed).targetOut = s.targetOut := by
  simp only [State.fenceReport]; repeat (first | rfl | split | simp)
@[simp] theorem State.fenceReport_choices (s : State) (m : Master) (i : OrtIndex) (failed : Bool) :
    (s.fenceReport m i failed).choices = s.choices := by
  simp only [State.fenceReport]; repeat (first | rfl | split | simp)
@[simp] theorem State.fenceReport_pending (s : State) (m : Master) (i : OrtIndex) (failed : Bool) :
    (s.fenceReport m i failed).pending = s.pending := by
  simp only [State.fenceReport]; repeat (first | rfl | split | simp)

/-! ### release -/
@[simp] theorem State.release_pwronN (s : State) (i : OrtIndex) (u : OrtUse) :
    (s.release i u).pwronN = s.pwronN := by
  simp only [State.release]; repeat (first | rfl | split | simp)
@[simp] theorem State.release_straps (s : State) (i : OrtIndex) (u : OrtUse) :
    (s.release i u).straps = s.straps := by
  simp only [State.release]; repeat (first | rfl | split | simp)
@[simp] theorem State.release_now (s : State) (i : OrtIndex) (u : OrtUse) :
    (s.release i u).now = s.now := by
  simp only [State.release]; repeat (first | rfl | split | simp)
@[simp] theorem State.release_planes (s : State) (i : OrtIndex) (u : OrtUse) :
    (s.release i u).planes = s.planes := by
  simp only [State.release]; repeat (first | rfl | split | simp)
@[simp] theorem State.release_generation (s : State) (i : OrtIndex) (u : OrtUse) :
    (s.release i u).generation = s.generation := by
  simp only [State.release]; repeat (first | rfl | split | simp)
@[simp] theorem State.release_planeState (s : State) (i : OrtIndex) (u : OrtUse) :
    (s.release i u).planeState = s.planeState := by
  simp only [State.release]; repeat (first | rfl | split | simp)
@[simp] theorem State.release_refCounts (s : State) (i : OrtIndex) (u : OrtUse) :
    (s.release i u).refCounts = s.refCounts := by
  simp only [State.release]; repeat (first | rfl | split | simp)
@[simp] theorem State.release_flushReports (s : State) (i : OrtIndex) (u : OrtUse) :
    (s.release i u).flushReports = s.flushReports := by
  simp only [State.release]; repeat (first | rfl | split | simp)
@[simp] theorem State.release_announcements (s : State) (i : OrtIndex) (u : OrtUse) :
    (s.release i u).announcements = s.announcements := by
  simp only [State.release]; repeat (first | rfl | split | simp)
@[simp] theorem State.release_masters (s : State) (i : OrtIndex) (u : OrtUse) :
    (s.release i u).masters = s.masters := by
  simp only [State.release]; repeat (first | rfl | split | simp)
@[simp] theorem State.release_control (s : State) (i : OrtIndex) (u : OrtUse) :
    (s.release i u).control = s.control := by
  simp only [State.release]; repeat (first | rfl | split | simp)
@[simp] theorem State.release_ort (s : State) (i : OrtIndex) (u : OrtUse) :
    (s.release i u).ort = s.ort := by
  simp only [State.release]; repeat (first | rfl | split | simp)
@[simp] theorem State.release_held (s : State) (i : OrtIndex) (u : OrtUse) :
    (s.release i u).held = s.held := by
  simp only [State.release]; repeat (first | rfl | split | simp)
@[simp] theorem State.release_targets (s : State) (i : OrtIndex) (u : OrtUse) :
    (s.release i u).targets = s.targets := by
  simp only [State.release]; repeat (first | rfl | split | simp)
@[simp] theorem State.release_masterOut (s : State) (i : OrtIndex) (u : OrtUse) :
    (s.release i u).masterOut = s.masterOut := by
  simp only [State.release]; repeat (first | rfl | split | simp)
@[simp] theorem State.release_targetOut (s : State) (i : OrtIndex) (u : OrtUse) :
    (s.release i u).targetOut = s.targetOut := by
  simp only [State.release]; repeat (first | rfl | split | simp)
@[simp] theorem State.release_choices (s : State) (i : OrtIndex) (u : OrtUse) :
    (s.release i u).choices = s.choices := by
  simp only [State.release]; repeat (first | rfl | split | simp)
@[simp] theorem State.release_pending (s : State) (i : OrtIndex) (u : OrtUse) :
    (s.release i u).pending = s.pending := by
  simp only [State.release]; repeat (first | rfl | split | simp)

/-! ### clearEntry -/
@[simp] theorem State.clearEntry_pwronN (s : State) (i : OrtIndex) (u : OrtUse) :
    (s.clearEntry i u).pwronN = s.pwronN := rfl
@[simp] theorem State.clearEntry_straps (s : State) (i : OrtIndex) (u : OrtUse) :
    (s.clearEntry i u).straps = s.straps := rfl
@[simp] theorem State.clearEntry_now (s : State) (i : OrtIndex) (u : OrtUse) :
    (s.clearEntry i u).now = s.now := rfl
@[simp] theorem State.clearEntry_planes (s : State) (i : OrtIndex) (u : OrtUse) :
    (s.clearEntry i u).planes = s.planes := rfl
@[simp] theorem State.clearEntry_generation (s : State) (i : OrtIndex) (u : OrtUse) :
    (s.clearEntry i u).generation = s.generation := rfl
@[simp] theorem State.clearEntry_planeState (s : State) (i : OrtIndex) (u : OrtUse) :
    (s.clearEntry i u).planeState = s.planeState := rfl
@[simp] theorem State.clearEntry_refCounts (s : State) (i : OrtIndex) (u : OrtUse) :
    (s.clearEntry i u).refCounts = s.refCounts := rfl
@[simp] theorem State.clearEntry_decrements (s : State) (i : OrtIndex) (u : OrtUse) :
    (s.clearEntry i u).decrements = s.decrements := rfl
@[simp] theorem State.clearEntry_flushReports (s : State) (i : OrtIndex) (u : OrtUse) :
    (s.clearEntry i u).flushReports = s.flushReports := rfl
@[simp] theorem State.clearEntry_announcements (s : State) (i : OrtIndex) (u : OrtUse) :
    (s.clearEntry i u).announcements = s.announcements := rfl
@[simp] theorem State.clearEntry_masters (s : State) (i : OrtIndex) (u : OrtUse) :
    (s.clearEntry i u).masters = s.masters := rfl
@[simp] theorem State.clearEntry_control (s : State) (i : OrtIndex) (u : OrtUse) :
    (s.clearEntry i u).control = s.control := rfl
@[simp] theorem State.clearEntry_freeBlocks (s : State) (i : OrtIndex) (u : OrtUse) :
    (s.clearEntry i u).freeBlocks = s.freeBlocks := rfl
@[simp] theorem State.clearEntry_lanes (s : State) (i : OrtIndex) (u : OrtUse) :
    (s.clearEntry i u).lanes = s.lanes := rfl
@[simp] theorem State.clearEntry_targets (s : State) (i : OrtIndex) (u : OrtUse) :
    (s.clearEntry i u).targets = s.targets := rfl
@[simp] theorem State.clearEntry_masterOut (s : State) (i : OrtIndex) (u : OrtUse) :
    (s.clearEntry i u).masterOut = s.masterOut := rfl
@[simp] theorem State.clearEntry_targetOut (s : State) (i : OrtIndex) (u : OrtUse) :
    (s.clearEntry i u).targetOut = s.targetOut := rfl
@[simp] theorem State.clearEntry_choices (s : State) (i : OrtIndex) (u : OrtUse) :
    (s.clearEntry i u).choices = s.choices := rfl
@[simp] theorem State.clearEntry_pending (s : State) (i : OrtIndex) (u : OrtUse) :
    (s.clearEntry i u).pending = s.pending := rfl

/-! ### retire -/
@[simp] theorem State.retire_pwronN (s : State) (i : OrtIndex) (u : OrtUse) :
    (s.retire i u).pwronN = s.pwronN := by
  simp only [State.retire]; repeat (first | rfl | split | simp)
@[simp] theorem State.retire_straps (s : State) (i : OrtIndex) (u : OrtUse) :
    (s.retire i u).straps = s.straps := by
  simp only [State.retire]; repeat (first | rfl | split | simp)
@[simp] theorem State.retire_now (s : State) (i : OrtIndex) (u : OrtUse) :
    (s.retire i u).now = s.now := by
  simp only [State.retire]; repeat (first | rfl | split | simp)
@[simp] theorem State.retire_planes (s : State) (i : OrtIndex) (u : OrtUse) :
    (s.retire i u).planes = s.planes := by
  simp only [State.retire]; repeat (first | rfl | split | simp)
@[simp] theorem State.retire_generation (s : State) (i : OrtIndex) (u : OrtUse) :
    (s.retire i u).generation = s.generation := by
  simp only [State.retire]; repeat (first | rfl | split | simp)
@[simp] theorem State.retire_planeState (s : State) (i : OrtIndex) (u : OrtUse) :
    (s.retire i u).planeState = s.planeState := by
  simp only [State.retire]; repeat (first | rfl | split | simp)
@[simp] theorem State.retire_refCounts (s : State) (i : OrtIndex) (u : OrtUse) :
    (s.retire i u).refCounts = s.refCounts := by
  simp only [State.retire]; repeat (first | rfl | split | simp)
@[simp] theorem State.retire_flushReports (s : State) (i : OrtIndex) (u : OrtUse) :
    (s.retire i u).flushReports = s.flushReports := by
  simp only [State.retire]; repeat (first | rfl | split | simp)
@[simp] theorem State.retire_announcements (s : State) (i : OrtIndex) (u : OrtUse) :
    (s.retire i u).announcements = s.announcements := by
  simp only [State.retire]; repeat (first | rfl | split | simp)
@[simp] theorem State.retire_masters (s : State) (i : OrtIndex) (u : OrtUse) :
    (s.retire i u).masters = s.masters := by
  simp only [State.retire]; repeat (first | rfl | split | simp)
@[simp] theorem State.retire_control (s : State) (i : OrtIndex) (u : OrtUse) :
    (s.retire i u).control = s.control := by
  simp only [State.retire]; repeat (first | rfl | split | simp)
@[simp] theorem State.retire_targets (s : State) (i : OrtIndex) (u : OrtUse) :
    (s.retire i u).targets = s.targets := by
  simp only [State.retire]; repeat (first | rfl | split | simp)
@[simp] theorem State.retire_masterOut (s : State) (i : OrtIndex) (u : OrtUse) :
    (s.retire i u).masterOut = s.masterOut := by
  simp only [State.retire]; repeat (first | rfl | split | simp)
@[simp] theorem State.retire_targetOut (s : State) (i : OrtIndex) (u : OrtUse) :
    (s.retire i u).targetOut = s.targetOut := by
  simp only [State.retire]; repeat (first | rfl | split | simp)
@[simp] theorem State.retire_choices (s : State) (i : OrtIndex) (u : OrtUse) :
    (s.retire i u).choices = s.choices := by
  simp only [State.retire]; repeat (first | rfl | split | simp)
@[simp] theorem State.retire_pending (s : State) (i : OrtIndex) (u : OrtUse) :
    (s.retire i u).pending = s.pending := by
  simp only [State.retire]; repeat (first | rfl | split | simp)

/-! ### respond -/
@[simp] theorem State.respond_pwronN (s : State) (i : OrtIndex) (u : OrtUse) (st : Status) (d : List Byte) :
    (s.respond i u st d).pwronN = s.pwronN := by
  simp only [State.respond]; repeat (first | rfl | split | simp)
@[simp] theorem State.respond_straps (s : State) (i : OrtIndex) (u : OrtUse) (st : Status) (d : List Byte) :
    (s.respond i u st d).straps = s.straps := by
  simp only [State.respond]; repeat (first | rfl | split | simp)
@[simp] theorem State.respond_now (s : State) (i : OrtIndex) (u : OrtUse) (st : Status) (d : List Byte) :
    (s.respond i u st d).now = s.now := by
  simp only [State.respond]; repeat (first | rfl | split | simp)
@[simp] theorem State.respond_planes (s : State) (i : OrtIndex) (u : OrtUse) (st : Status) (d : List Byte) :
    (s.respond i u st d).planes = s.planes := by
  simp only [State.respond]; repeat (first | rfl | split | simp)
@[simp] theorem State.respond_generation (s : State) (i : OrtIndex) (u : OrtUse) (st : Status) (d : List Byte) :
    (s.respond i u st d).generation = s.generation := by
  simp only [State.respond]; repeat (first | rfl | split | simp)
@[simp] theorem State.respond_planeState (s : State) (i : OrtIndex) (u : OrtUse) (st : Status) (d : List Byte) :
    (s.respond i u st d).planeState = s.planeState := by
  simp only [State.respond]; repeat (first | rfl | split | simp)
@[simp] theorem State.respond_refCounts (s : State) (i : OrtIndex) (u : OrtUse) (st : Status) (d : List Byte) :
    (s.respond i u st d).refCounts = s.refCounts := by
  simp only [State.respond]; repeat (first | rfl | split | simp)
@[simp] theorem State.respond_decrements (s : State) (i : OrtIndex) (u : OrtUse) (st : Status) (d : List Byte) :
    (s.respond i u st d).decrements = s.decrements := by
  simp only [State.respond]; repeat (first | rfl | split | simp)
@[simp] theorem State.respond_flushReports (s : State) (i : OrtIndex) (u : OrtUse) (st : Status) (d : List Byte) :
    (s.respond i u st d).flushReports = s.flushReports := by
  simp only [State.respond]; repeat (first | rfl | split | simp)
@[simp] theorem State.respond_announcements (s : State) (i : OrtIndex) (u : OrtUse) (st : Status) (d : List Byte) :
    (s.respond i u st d).announcements = s.announcements := by
  simp only [State.respond]; repeat (first | rfl | split | simp)
@[simp] theorem State.respond_control (s : State) (i : OrtIndex) (u : OrtUse) (st : Status) (d : List Byte) :
    (s.respond i u st d).control = s.control := by
  simp only [State.respond]; repeat (first | rfl | split | simp)
@[simp] theorem State.respond_ort (s : State) (i : OrtIndex) (u : OrtUse) (st : Status) (d : List Byte) :
    (s.respond i u st d).ort = s.ort := by
  simp only [State.respond]; repeat (first | rfl | split | simp)
@[simp] theorem State.respond_held (s : State) (i : OrtIndex) (u : OrtUse) (st : Status) (d : List Byte) :
    (s.respond i u st d).held = s.held := by
  simp only [State.respond]; repeat (first | rfl | split | simp)
@[simp] theorem State.respond_freeBlocks (s : State) (i : OrtIndex) (u : OrtUse) (st : Status) (d : List Byte) :
    (s.respond i u st d).freeBlocks = s.freeBlocks := by
  simp only [State.respond]; repeat (first | rfl | split | simp)
@[simp] theorem State.respond_lanes (s : State) (i : OrtIndex) (u : OrtUse) (st : Status) (d : List Byte) :
    (s.respond i u st d).lanes = s.lanes := by
  simp only [State.respond]; repeat (first | rfl | split | simp)
@[simp] theorem State.respond_targets (s : State) (i : OrtIndex) (u : OrtUse) (st : Status) (d : List Byte) :
    (s.respond i u st d).targets = s.targets := by
  simp only [State.respond]; repeat (first | rfl | split | simp)
@[simp] theorem State.respond_masterOut (s : State) (i : OrtIndex) (u : OrtUse) (st : Status) (d : List Byte) :
    (s.respond i u st d).masterOut = s.masterOut := by
  simp only [State.respond]; repeat (first | rfl | split | simp)
@[simp] theorem State.respond_targetOut (s : State) (i : OrtIndex) (u : OrtUse) (st : Status) (d : List Byte) :
    (s.respond i u st d).targetOut = s.targetOut := by
  simp only [State.respond]; repeat (first | rfl | split | simp)
@[simp] theorem State.respond_choices (s : State) (i : OrtIndex) (u : OrtUse) (st : Status) (d : List Byte) :
    (s.respond i u st d).choices = s.choices := by
  simp only [State.respond]; repeat (first | rfl | split | simp)
@[simp] theorem State.respond_pending (s : State) (i : OrtIndex) (u : OrtUse) (st : Status) (d : List Byte) :
    (s.respond i u st d).pending = s.pending := by
  simp only [State.respond]; repeat (first | rfl | split | simp)

/-! ### reportFailure -/
@[simp] theorem State.reportFailure_pwronN (s : State) (i : OrtIndex) (u : OrtUse) (st : Status) :
    (s.reportFailure i u st).pwronN = s.pwronN := by
  simp only [State.reportFailure]; repeat (first | rfl | split | simp)
@[simp] theorem State.reportFailure_straps (s : State) (i : OrtIndex) (u : OrtUse) (st : Status) :
    (s.reportFailure i u st).straps = s.straps := by
  simp only [State.reportFailure]; repeat (first | rfl | split | simp)
@[simp] theorem State.reportFailure_now (s : State) (i : OrtIndex) (u : OrtUse) (st : Status) :
    (s.reportFailure i u st).now = s.now := by
  simp only [State.reportFailure]; repeat (first | rfl | split | simp)
@[simp] theorem State.reportFailure_planes (s : State) (i : OrtIndex) (u : OrtUse) (st : Status) :
    (s.reportFailure i u st).planes = s.planes := by
  simp only [State.reportFailure]; repeat (first | rfl | split | simp)
@[simp] theorem State.reportFailure_generation (s : State) (i : OrtIndex) (u : OrtUse) (st : Status) :
    (s.reportFailure i u st).generation = s.generation := by
  simp only [State.reportFailure]; repeat (first | rfl | split | simp)
@[simp] theorem State.reportFailure_planeState (s : State) (i : OrtIndex) (u : OrtUse) (st : Status) :
    (s.reportFailure i u st).planeState = s.planeState := by
  simp only [State.reportFailure]; repeat (first | rfl | split | simp)
@[simp] theorem State.reportFailure_refCounts (s : State) (i : OrtIndex) (u : OrtUse) (st : Status) :
    (s.reportFailure i u st).refCounts = s.refCounts := by
  simp only [State.reportFailure]; repeat (first | rfl | split | simp)
@[simp] theorem State.reportFailure_decrements (s : State) (i : OrtIndex) (u : OrtUse) (st : Status) :
    (s.reportFailure i u st).decrements = s.decrements := by
  simp only [State.reportFailure]; repeat (first | rfl | split | simp)
@[simp] theorem State.reportFailure_flushReports (s : State) (i : OrtIndex) (u : OrtUse) (st : Status) :
    (s.reportFailure i u st).flushReports = s.flushReports := by
  simp only [State.reportFailure]; repeat (first | rfl | split | simp)
@[simp] theorem State.reportFailure_announcements (s : State) (i : OrtIndex) (u : OrtUse) (st : Status) :
    (s.reportFailure i u st).announcements = s.announcements := by
  simp only [State.reportFailure]; repeat (first | rfl | split | simp)
@[simp] theorem State.reportFailure_control (s : State) (i : OrtIndex) (u : OrtUse) (st : Status) :
    (s.reportFailure i u st).control = s.control := by
  simp only [State.reportFailure]; repeat (first | rfl | split | simp)
@[simp] theorem State.reportFailure_ort (s : State) (i : OrtIndex) (u : OrtUse) (st : Status) :
    (s.reportFailure i u st).ort = s.ort := by
  simp only [State.reportFailure]; repeat (first | rfl | split | simp)
@[simp] theorem State.reportFailure_held (s : State) (i : OrtIndex) (u : OrtUse) (st : Status) :
    (s.reportFailure i u st).held = s.held := by
  simp only [State.reportFailure]; repeat (first | rfl | split | simp)
@[simp] theorem State.reportFailure_freeBlocks (s : State) (i : OrtIndex) (u : OrtUse) (st : Status) :
    (s.reportFailure i u st).freeBlocks = s.freeBlocks := by
  simp only [State.reportFailure]; repeat (first | rfl | split | simp)
@[simp] theorem State.reportFailure_lanes (s : State) (i : OrtIndex) (u : OrtUse) (st : Status) :
    (s.reportFailure i u st).lanes = s.lanes := by
  simp only [State.reportFailure]; repeat (first | rfl | split | simp)
@[simp] theorem State.reportFailure_targets (s : State) (i : OrtIndex) (u : OrtUse) (st : Status) :
    (s.reportFailure i u st).targets = s.targets := by
  simp only [State.reportFailure]; repeat (first | rfl | split | simp)
@[simp] theorem State.reportFailure_masterOut (s : State) (i : OrtIndex) (u : OrtUse) (st : Status) :
    (s.reportFailure i u st).masterOut = s.masterOut := by
  simp only [State.reportFailure]; repeat (first | rfl | split | simp)
@[simp] theorem State.reportFailure_targetOut (s : State) (i : OrtIndex) (u : OrtUse) (st : Status) :
    (s.reportFailure i u st).targetOut = s.targetOut := by
  simp only [State.reportFailure]; repeat (first | rfl | split | simp)
@[simp] theorem State.reportFailure_choices (s : State) (i : OrtIndex) (u : OrtUse) (st : Status) :
    (s.reportFailure i u st).choices = s.choices := by
  simp only [State.reportFailure]; repeat (first | rfl | split | simp)
@[simp] theorem State.reportFailure_pending (s : State) (i : OrtIndex) (u : OrtUse) (st : Status) :
    (s.reportFailure i u st).pending = s.pending := by
  simp only [State.reportFailure]; repeat (first | rfl | split | simp)

/-! ### failEntry -/
@[simp] theorem State.failEntry_pwronN (s : State) (i : OrtIndex) (u : OrtUse) (st : Status) :
    (s.failEntry i u st).pwronN = s.pwronN := by
  simp only [State.failEntry]; repeat (first | rfl | split | simp)
@[simp] theorem State.failEntry_straps (s : State) (i : OrtIndex) (u : OrtUse) (st : Status) :
    (s.failEntry i u st).straps = s.straps := by
  simp only [State.failEntry]; repeat (first | rfl | split | simp)
@[simp] theorem State.failEntry_now (s : State) (i : OrtIndex) (u : OrtUse) (st : Status) :
    (s.failEntry i u st).now = s.now := by
  simp only [State.failEntry]; repeat (first | rfl | split | simp)
@[simp] theorem State.failEntry_planes (s : State) (i : OrtIndex) (u : OrtUse) (st : Status) :
    (s.failEntry i u st).planes = s.planes := by
  simp only [State.failEntry]; repeat (first | rfl | split | simp)
@[simp] theorem State.failEntry_generation (s : State) (i : OrtIndex) (u : OrtUse) (st : Status) :
    (s.failEntry i u st).generation = s.generation := by
  simp only [State.failEntry]; repeat (first | rfl | split | simp)
@[simp] theorem State.failEntry_planeState (s : State) (i : OrtIndex) (u : OrtUse) (st : Status) :
    (s.failEntry i u st).planeState = s.planeState := by
  simp only [State.failEntry]; repeat (first | rfl | split | simp)
@[simp] theorem State.failEntry_refCounts (s : State) (i : OrtIndex) (u : OrtUse) (st : Status) :
    (s.failEntry i u st).refCounts = s.refCounts := by
  simp only [State.failEntry]; repeat (first | rfl | split | simp)
@[simp] theorem State.failEntry_flushReports (s : State) (i : OrtIndex) (u : OrtUse) (st : Status) :
    (s.failEntry i u st).flushReports = s.flushReports := by
  simp only [State.failEntry]; repeat (first | rfl | split | simp)
@[simp] theorem State.failEntry_announcements (s : State) (i : OrtIndex) (u : OrtUse) (st : Status) :
    (s.failEntry i u st).announcements = s.announcements := by
  simp only [State.failEntry]; repeat (first | rfl | split | simp)
@[simp] theorem State.failEntry_control (s : State) (i : OrtIndex) (u : OrtUse) (st : Status) :
    (s.failEntry i u st).control = s.control := by
  simp only [State.failEntry]; repeat (first | rfl | split | simp)
@[simp] theorem State.failEntry_targets (s : State) (i : OrtIndex) (u : OrtUse) (st : Status) :
    (s.failEntry i u st).targets = s.targets := by
  simp only [State.failEntry]; repeat (first | rfl | split | simp)
@[simp] theorem State.failEntry_masterOut (s : State) (i : OrtIndex) (u : OrtUse) (st : Status) :
    (s.failEntry i u st).masterOut = s.masterOut := by
  simp only [State.failEntry]; repeat (first | rfl | split | simp)
@[simp] theorem State.failEntry_targetOut (s : State) (i : OrtIndex) (u : OrtUse) (st : Status) :
    (s.failEntry i u st).targetOut = s.targetOut := by
  simp only [State.failEntry]; repeat (first | rfl | split | simp)
@[simp] theorem State.failEntry_choices (s : State) (i : OrtIndex) (u : OrtUse) (st : Status) :
    (s.failEntry i u st).choices = s.choices := by
  simp only [State.failEntry]; repeat (first | rfl | split | simp)
@[simp] theorem State.failEntry_pending (s : State) (i : OrtIndex) (u : OrtUse) (st : Status) :
    (s.failEntry i u st).pending = s.pending := by
  simp only [State.failEntry]; repeat (first | rfl | split | simp)

/-! ### lapse -/
@[simp] theorem State.lapse_pwronN (s : State) (i : OrtIndex) (u : OrtUse) :
    (s.lapse i u).pwronN = s.pwronN := by
  simp only [State.lapse]; repeat (first | rfl | split | simp)
@[simp] theorem State.lapse_straps (s : State) (i : OrtIndex) (u : OrtUse) :
    (s.lapse i u).straps = s.straps := by
  simp only [State.lapse]; repeat (first | rfl | split | simp)
@[simp] theorem State.lapse_now (s : State) (i : OrtIndex) (u : OrtUse) :
    (s.lapse i u).now = s.now := by
  simp only [State.lapse]; repeat (first | rfl | split | simp)
@[simp] theorem State.lapse_planes (s : State) (i : OrtIndex) (u : OrtUse) :
    (s.lapse i u).planes = s.planes := by
  simp only [State.lapse]; repeat (first | rfl | split | simp)
@[simp] theorem State.lapse_generation (s : State) (i : OrtIndex) (u : OrtUse) :
    (s.lapse i u).generation = s.generation := by
  simp only [State.lapse]; repeat (first | rfl | split | simp)
@[simp] theorem State.lapse_planeState (s : State) (i : OrtIndex) (u : OrtUse) :
    (s.lapse i u).planeState = s.planeState := by
  simp only [State.lapse]; repeat (first | rfl | split | simp)
@[simp] theorem State.lapse_refCounts (s : State) (i : OrtIndex) (u : OrtUse) :
    (s.lapse i u).refCounts = s.refCounts := by
  simp only [State.lapse]; repeat (first | rfl | split | simp)
@[simp] theorem State.lapse_flushReports (s : State) (i : OrtIndex) (u : OrtUse) :
    (s.lapse i u).flushReports = s.flushReports := by
  simp only [State.lapse]; repeat (first | rfl | split | simp)
@[simp] theorem State.lapse_announcements (s : State) (i : OrtIndex) (u : OrtUse) :
    (s.lapse i u).announcements = s.announcements := by
  simp only [State.lapse]; repeat (first | rfl | split | simp)
@[simp] theorem State.lapse_masters (s : State) (i : OrtIndex) (u : OrtUse) :
    (s.lapse i u).masters = s.masters := by
  simp only [State.lapse]; repeat (first | rfl | split | simp)
@[simp] theorem State.lapse_control (s : State) (i : OrtIndex) (u : OrtUse) :
    (s.lapse i u).control = s.control := by
  simp only [State.lapse]; repeat (first | rfl | split | simp)
@[simp] theorem State.lapse_held (s : State) (i : OrtIndex) (u : OrtUse) :
    (s.lapse i u).held = s.held := by
  simp only [State.lapse]; repeat (first | rfl | split | simp)
@[simp] theorem State.lapse_targets (s : State) (i : OrtIndex) (u : OrtUse) :
    (s.lapse i u).targets = s.targets := by
  simp only [State.lapse]; repeat (first | rfl | split | simp)
@[simp] theorem State.lapse_masterOut (s : State) (i : OrtIndex) (u : OrtUse) :
    (s.lapse i u).masterOut = s.masterOut := by
  simp only [State.lapse]; repeat (first | rfl | split | simp)
@[simp] theorem State.lapse_targetOut (s : State) (i : OrtIndex) (u : OrtUse) :
    (s.lapse i u).targetOut = s.targetOut := by
  simp only [State.lapse]; repeat (first | rfl | split | simp)
@[simp] theorem State.lapse_choices (s : State) (i : OrtIndex) (u : OrtUse) :
    (s.lapse i u).choices = s.choices := by
  simp only [State.lapse]; repeat (first | rfl | split | simp)
@[simp] theorem State.lapse_pending (s : State) (i : OrtIndex) (u : OrtUse) :
    (s.lapse i u).pending = s.pending := by
  simp only [State.lapse]; repeat (first | rfl | split | simp)

/-! ### portDown -/
@[simp] theorem State.portDown_pwronN (s : State) (t : Target) :
    (s.portDown t).pwronN = s.pwronN := rfl
@[simp] theorem State.portDown_straps (s : State) (t : Target) :
    (s.portDown t).straps = s.straps := rfl
@[simp] theorem State.portDown_now (s : State) (t : Target) :
    (s.portDown t).now = s.now := rfl
@[simp] theorem State.portDown_planes (s : State) (t : Target) :
    (s.portDown t).planes = s.planes := rfl
@[simp] theorem State.portDown_generation (s : State) (t : Target) :
    (s.portDown t).generation = s.generation := rfl
@[simp] theorem State.portDown_planeState (s : State) (t : Target) :
    (s.portDown t).planeState = s.planeState := rfl
@[simp] theorem State.portDown_refCounts (s : State) (t : Target) :
    (s.portDown t).refCounts = s.refCounts := rfl
@[simp] theorem State.portDown_decrements (s : State) (t : Target) :
    (s.portDown t).decrements = s.decrements := rfl
@[simp] theorem State.portDown_flushReports (s : State) (t : Target) :
    (s.portDown t).flushReports = s.flushReports := rfl
@[simp] theorem State.portDown_announcements (s : State) (t : Target) :
    (s.portDown t).announcements = s.announcements := rfl
@[simp] theorem State.portDown_masters (s : State) (t : Target) :
    (s.portDown t).masters = s.masters := rfl
@[simp] theorem State.portDown_control (s : State) (t : Target) :
    (s.portDown t).control = s.control := rfl
@[simp] theorem State.portDown_ort (s : State) (t : Target) :
    (s.portDown t).ort = s.ort := rfl
@[simp] theorem State.portDown_held (s : State) (t : Target) :
    (s.portDown t).held = s.held := rfl
@[simp] theorem State.portDown_freeBlocks (s : State) (t : Target) :
    (s.portDown t).freeBlocks = s.freeBlocks := rfl
@[simp] theorem State.portDown_lanes (s : State) (t : Target) :
    (s.portDown t).lanes = s.lanes := rfl
@[simp] theorem State.portDown_masterOut (s : State) (t : Target) :
    (s.portDown t).masterOut = s.masterOut := rfl
@[simp] theorem State.portDown_targetOut (s : State) (t : Target) :
    (s.portDown t).targetOut = s.targetOut := rfl
@[simp] theorem State.portDown_choices (s : State) (t : Target) :
    (s.portDown t).choices = s.choices := rfl
@[simp] theorem State.portDown_pending (s : State) (t : Target) :
    (s.portDown t).pending = s.pending := rfl

/-! ### notifyDown -/
@[simp] theorem State.notifyDown_pwronN (s : State) (t : Target) (c : DownCause) (l : TargetState) :
    (s.notifyDown t c l).pwronN = s.pwronN := rfl
@[simp] theorem State.notifyDown_straps (s : State) (t : Target) (c : DownCause) (l : TargetState) :
    (s.notifyDown t c l).straps = s.straps := rfl
@[simp] theorem State.notifyDown_now (s : State) (t : Target) (c : DownCause) (l : TargetState) :
    (s.notifyDown t c l).now = s.now := rfl
@[simp] theorem State.notifyDown_planes (s : State) (t : Target) (c : DownCause) (l : TargetState) :
    (s.notifyDown t c l).planes = s.planes := rfl
@[simp] theorem State.notifyDown_generation (s : State) (t : Target) (c : DownCause) (l : TargetState) :
    (s.notifyDown t c l).generation = s.generation := rfl
@[simp] theorem State.notifyDown_planeState (s : State) (t : Target) (c : DownCause) (l : TargetState) :
    (s.notifyDown t c l).planeState = s.planeState := rfl
@[simp] theorem State.notifyDown_refCounts (s : State) (t : Target) (c : DownCause) (l : TargetState) :
    (s.notifyDown t c l).refCounts = s.refCounts := rfl
@[simp] theorem State.notifyDown_decrements (s : State) (t : Target) (c : DownCause) (l : TargetState) :
    (s.notifyDown t c l).decrements = s.decrements := rfl
@[simp] theorem State.notifyDown_flushReports (s : State) (t : Target) (c : DownCause) (l : TargetState) :
    (s.notifyDown t c l).flushReports = s.flushReports := rfl
@[simp] theorem State.notifyDown_announcements (s : State) (t : Target) (c : DownCause) (l : TargetState) :
    (s.notifyDown t c l).announcements = s.announcements := rfl
@[simp] theorem State.notifyDown_control (s : State) (t : Target) (c : DownCause) (l : TargetState) :
    (s.notifyDown t c l).control = s.control := rfl
@[simp] theorem State.notifyDown_ort (s : State) (t : Target) (c : DownCause) (l : TargetState) :
    (s.notifyDown t c l).ort = s.ort := rfl
@[simp] theorem State.notifyDown_held (s : State) (t : Target) (c : DownCause) (l : TargetState) :
    (s.notifyDown t c l).held = s.held := rfl
@[simp] theorem State.notifyDown_freeBlocks (s : State) (t : Target) (c : DownCause) (l : TargetState) :
    (s.notifyDown t c l).freeBlocks = s.freeBlocks := rfl
@[simp] theorem State.notifyDown_lanes (s : State) (t : Target) (c : DownCause) (l : TargetState) :
    (s.notifyDown t c l).lanes = s.lanes := rfl
@[simp] theorem State.notifyDown_targets (s : State) (t : Target) (c : DownCause) (l : TargetState) :
    (s.notifyDown t c l).targets = s.targets := rfl
@[simp] theorem State.notifyDown_masterOut (s : State) (t : Target) (c : DownCause) (l : TargetState) :
    (s.notifyDown t c l).masterOut = s.masterOut := rfl
@[simp] theorem State.notifyDown_targetOut (s : State) (t : Target) (c : DownCause) (l : TargetState) :
    (s.notifyDown t c l).targetOut = s.targetOut := rfl
@[simp] theorem State.notifyDown_choices (s : State) (t : Target) (c : DownCause) (l : TargetState) :
    (s.notifyDown t c l).choices = s.choices := rfl
@[simp] theorem State.notifyDown_pending (s : State) (t : Target) (c : DownCause) (l : TargetState) :
    (s.notifyDown t c l).pending = s.pending := rfl

/-! ### announce -/
@[simp] theorem State.announce_pwronN (s : State) (t : Target) :
    (s.announce t).pwronN = s.pwronN := rfl
@[simp] theorem State.announce_straps (s : State) (t : Target) :
    (s.announce t).straps = s.straps := rfl
@[simp] theorem State.announce_now (s : State) (t : Target) :
    (s.announce t).now = s.now := rfl
@[simp] theorem State.announce_planes (s : State) (t : Target) :
    (s.announce t).planes = s.planes := rfl
@[simp] theorem State.announce_generation (s : State) (t : Target) :
    (s.announce t).generation = s.generation := rfl
@[simp] theorem State.announce_planeState (s : State) (t : Target) :
    (s.announce t).planeState = s.planeState := rfl
@[simp] theorem State.announce_refCounts (s : State) (t : Target) :
    (s.announce t).refCounts = s.refCounts := rfl
@[simp] theorem State.announce_decrements (s : State) (t : Target) :
    (s.announce t).decrements = s.decrements := rfl
@[simp] theorem State.announce_flushReports (s : State) (t : Target) :
    (s.announce t).flushReports = s.flushReports := rfl
@[simp] theorem State.announce_masters (s : State) (t : Target) :
    (s.announce t).masters = s.masters := rfl
@[simp] theorem State.announce_control (s : State) (t : Target) :
    (s.announce t).control = s.control := rfl
@[simp] theorem State.announce_ort (s : State) (t : Target) :
    (s.announce t).ort = s.ort := rfl
@[simp] theorem State.announce_held (s : State) (t : Target) :
    (s.announce t).held = s.held := rfl
@[simp] theorem State.announce_freeBlocks (s : State) (t : Target) :
    (s.announce t).freeBlocks = s.freeBlocks := rfl
@[simp] theorem State.announce_lanes (s : State) (t : Target) :
    (s.announce t).lanes = s.lanes := rfl
@[simp] theorem State.announce_targets (s : State) (t : Target) :
    (s.announce t).targets = s.targets := rfl
@[simp] theorem State.announce_masterOut (s : State) (t : Target) :
    (s.announce t).masterOut = s.masterOut := rfl
@[simp] theorem State.announce_targetOut (s : State) (t : Target) :
    (s.announce t).targetOut = s.targetOut := rfl
@[simp] theorem State.announce_choices (s : State) (t : Target) :
    (s.announce t).choices = s.choices := rfl
@[simp] theorem State.announce_pending (s : State) (t : Target) :
    (s.announce t).pending = s.pending := rfl

/-! ### exitQuarantine -/
@[simp] theorem State.exitQuarantine_pwronN (s : State) (m : Master) :
    (s.exitQuarantine m).pwronN = s.pwronN := rfl
@[simp] theorem State.exitQuarantine_straps (s : State) (m : Master) :
    (s.exitQuarantine m).straps = s.straps := rfl
@[simp] theorem State.exitQuarantine_now (s : State) (m : Master) :
    (s.exitQuarantine m).now = s.now := rfl
@[simp] theorem State.exitQuarantine_planes (s : State) (m : Master) :
    (s.exitQuarantine m).planes = s.planes := rfl
@[simp] theorem State.exitQuarantine_generation (s : State) (m : Master) :
    (s.exitQuarantine m).generation = s.generation := rfl
@[simp] theorem State.exitQuarantine_planeState (s : State) (m : Master) :
    (s.exitQuarantine m).planeState = s.planeState := rfl
@[simp] theorem State.exitQuarantine_refCounts (s : State) (m : Master) :
    (s.exitQuarantine m).refCounts = s.refCounts := rfl
@[simp] theorem State.exitQuarantine_decrements (s : State) (m : Master) :
    (s.exitQuarantine m).decrements = s.decrements := rfl
@[simp] theorem State.exitQuarantine_flushReports (s : State) (m : Master) :
    (s.exitQuarantine m).flushReports = s.flushReports := rfl
@[simp] theorem State.exitQuarantine_announcements (s : State) (m : Master) :
    (s.exitQuarantine m).announcements = s.announcements := rfl
@[simp] theorem State.exitQuarantine_control (s : State) (m : Master) :
    (s.exitQuarantine m).control = s.control := rfl
@[simp] theorem State.exitQuarantine_ort (s : State) (m : Master) :
    (s.exitQuarantine m).ort = s.ort := rfl
@[simp] theorem State.exitQuarantine_held (s : State) (m : Master) :
    (s.exitQuarantine m).held = s.held := rfl
@[simp] theorem State.exitQuarantine_freeBlocks (s : State) (m : Master) :
    (s.exitQuarantine m).freeBlocks = s.freeBlocks := rfl
@[simp] theorem State.exitQuarantine_lanes (s : State) (m : Master) :
    (s.exitQuarantine m).lanes = s.lanes := rfl
@[simp] theorem State.exitQuarantine_targets (s : State) (m : Master) :
    (s.exitQuarantine m).targets = s.targets := rfl
@[simp] theorem State.exitQuarantine_masterOut (s : State) (m : Master) :
    (s.exitQuarantine m).masterOut = s.masterOut := rfl
@[simp] theorem State.exitQuarantine_targetOut (s : State) (m : Master) :
    (s.exitQuarantine m).targetOut = s.targetOut := rfl
@[simp] theorem State.exitQuarantine_choices (s : State) (m : Master) :
    (s.exitQuarantine m).choices = s.choices := rfl
@[simp] theorem State.exitQuarantine_pending (s : State) (m : Master) :
    (s.exitQuarantine m).pending = s.pending := rfl

/-! ### flushEntry, flushOrt -/
@[simp] theorem State.flushEntry_pwronN (m : Master) (s : State) (i : OrtIndex) :
    (State.flushEntry m s i).pwronN = s.pwronN := by
  simp only [State.flushEntry]; repeat (first | rfl | split | simp)
@[simp] theorem State.flushOrt_pwronN (s : State) (m : Master) : (s.flushOrt m).pwronN = s.pwronN :=
  foldl_keeps (fun s => s.pwronN) (State.flushEntry_pwronN m) _ s
@[simp] theorem State.flushEntry_straps (m : Master) (s : State) (i : OrtIndex) :
    (State.flushEntry m s i).straps = s.straps := by
  simp only [State.flushEntry]; repeat (first | rfl | split | simp)
@[simp] theorem State.flushOrt_straps (s : State) (m : Master) : (s.flushOrt m).straps = s.straps :=
  foldl_keeps (fun s => s.straps) (State.flushEntry_straps m) _ s
@[simp] theorem State.flushEntry_now (m : Master) (s : State) (i : OrtIndex) :
    (State.flushEntry m s i).now = s.now := by
  simp only [State.flushEntry]; repeat (first | rfl | split | simp)
@[simp] theorem State.flushOrt_now (s : State) (m : Master) : (s.flushOrt m).now = s.now :=
  foldl_keeps (fun s => s.now) (State.flushEntry_now m) _ s
@[simp] theorem State.flushEntry_planes (m : Master) (s : State) (i : OrtIndex) :
    (State.flushEntry m s i).planes = s.planes := by
  simp only [State.flushEntry]; repeat (first | rfl | split | simp)
@[simp] theorem State.flushOrt_planes (s : State) (m : Master) : (s.flushOrt m).planes = s.planes :=
  foldl_keeps (fun s => s.planes) (State.flushEntry_planes m) _ s
@[simp] theorem State.flushEntry_generation (m : Master) (s : State) (i : OrtIndex) :
    (State.flushEntry m s i).generation = s.generation := by
  simp only [State.flushEntry]; repeat (first | rfl | split | simp)
@[simp] theorem State.flushOrt_generation (s : State) (m : Master) : (s.flushOrt m).generation = s.generation :=
  foldl_keeps (fun s => s.generation) (State.flushEntry_generation m) _ s
@[simp] theorem State.flushEntry_planeState (m : Master) (s : State) (i : OrtIndex) :
    (State.flushEntry m s i).planeState = s.planeState := by
  simp only [State.flushEntry]; repeat (first | rfl | split | simp)
@[simp] theorem State.flushOrt_planeState (s : State) (m : Master) : (s.flushOrt m).planeState = s.planeState :=
  foldl_keeps (fun s => s.planeState) (State.flushEntry_planeState m) _ s
@[simp] theorem State.flushEntry_refCounts (m : Master) (s : State) (i : OrtIndex) :
    (State.flushEntry m s i).refCounts = s.refCounts := by
  simp only [State.flushEntry]; repeat (first | rfl | split | simp)
@[simp] theorem State.flushOrt_refCounts (s : State) (m : Master) : (s.flushOrt m).refCounts = s.refCounts :=
  foldl_keeps (fun s => s.refCounts) (State.flushEntry_refCounts m) _ s
@[simp] theorem State.flushEntry_flushReports (m : Master) (s : State) (i : OrtIndex) :
    (State.flushEntry m s i).flushReports = s.flushReports := by
  simp only [State.flushEntry]; repeat (first | rfl | split | simp)
@[simp] theorem State.flushOrt_flushReports (s : State) (m : Master) : (s.flushOrt m).flushReports = s.flushReports :=
  foldl_keeps (fun s => s.flushReports) (State.flushEntry_flushReports m) _ s
@[simp] theorem State.flushEntry_announcements (m : Master) (s : State) (i : OrtIndex) :
    (State.flushEntry m s i).announcements = s.announcements := by
  simp only [State.flushEntry]; repeat (first | rfl | split | simp)
@[simp] theorem State.flushOrt_announcements (s : State) (m : Master) : (s.flushOrt m).announcements = s.announcements :=
  foldl_keeps (fun s => s.announcements) (State.flushEntry_announcements m) _ s
@[simp] theorem State.flushEntry_masters (m : Master) (s : State) (i : OrtIndex) :
    (State.flushEntry m s i).masters = s.masters := by
  simp only [State.flushEntry]; repeat (first | rfl | split | simp)
@[simp] theorem State.flushOrt_masters (s : State) (m : Master) : (s.flushOrt m).masters = s.masters :=
  foldl_keeps (fun s => s.masters) (State.flushEntry_masters m) _ s
@[simp] theorem State.flushEntry_control (m : Master) (s : State) (i : OrtIndex) :
    (State.flushEntry m s i).control = s.control := by
  simp only [State.flushEntry]; repeat (first | rfl | split | simp)
@[simp] theorem State.flushOrt_control (s : State) (m : Master) : (s.flushOrt m).control = s.control :=
  foldl_keeps (fun s => s.control) (State.flushEntry_control m) _ s
@[simp] theorem State.flushEntry_targets (m : Master) (s : State) (i : OrtIndex) :
    (State.flushEntry m s i).targets = s.targets := by
  simp only [State.flushEntry]; repeat (first | rfl | split | simp)
@[simp] theorem State.flushOrt_targets (s : State) (m : Master) : (s.flushOrt m).targets = s.targets :=
  foldl_keeps (fun s => s.targets) (State.flushEntry_targets m) _ s
@[simp] theorem State.flushEntry_masterOut (m : Master) (s : State) (i : OrtIndex) :
    (State.flushEntry m s i).masterOut = s.masterOut := by
  simp only [State.flushEntry]; repeat (first | rfl | split | simp)
@[simp] theorem State.flushOrt_masterOut (s : State) (m : Master) : (s.flushOrt m).masterOut = s.masterOut :=
  foldl_keeps (fun s => s.masterOut) (State.flushEntry_masterOut m) _ s
@[simp] theorem State.flushEntry_targetOut (m : Master) (s : State) (i : OrtIndex) :
    (State.flushEntry m s i).targetOut = s.targetOut := by
  simp only [State.flushEntry]; repeat (first | rfl | split | simp)
@[simp] theorem State.flushOrt_targetOut (s : State) (m : Master) : (s.flushOrt m).targetOut = s.targetOut :=
  foldl_keeps (fun s => s.targetOut) (State.flushEntry_targetOut m) _ s
@[simp] theorem State.flushEntry_choices (m : Master) (s : State) (i : OrtIndex) :
    (State.flushEntry m s i).choices = s.choices := by
  simp only [State.flushEntry]; repeat (first | rfl | split | simp)
@[simp] theorem State.flushOrt_choices (s : State) (m : Master) : (s.flushOrt m).choices = s.choices :=
  foldl_keeps (fun s => s.choices) (State.flushEntry_choices m) _ s
@[simp] theorem State.flushEntry_pending (m : Master) (s : State) (i : OrtIndex) :
    (State.flushEntry m s i).pending = s.pending := by
  simp only [State.flushEntry]; repeat (first | rfl | split | simp)
@[simp] theorem State.flushOrt_pending (s : State) (m : Master) : (s.flushOrt m).pending = s.pending :=
  foldl_keeps (fun s => s.pending) (State.flushEntry_pending m) _ s

/-! ### loseEntry, loseTarget -/
@[simp] theorem State.loseEntry_pwronN (t : Target) (s : State) (i : OrtIndex) :
    (State.loseEntry t s i).pwronN = s.pwronN := by
  simp only [State.loseEntry]; repeat (first | rfl | split | simp)
@[simp] theorem State.loseTarget_pwronN (s : State) (t : Target) : (s.loseTarget t).pwronN = s.pwronN :=
  foldl_keeps (fun s => s.pwronN) (State.loseEntry_pwronN t) _ s
@[simp] theorem State.loseEntry_straps (t : Target) (s : State) (i : OrtIndex) :
    (State.loseEntry t s i).straps = s.straps := by
  simp only [State.loseEntry]; repeat (first | rfl | split | simp)
@[simp] theorem State.loseTarget_straps (s : State) (t : Target) : (s.loseTarget t).straps = s.straps :=
  foldl_keeps (fun s => s.straps) (State.loseEntry_straps t) _ s
@[simp] theorem State.loseEntry_now (t : Target) (s : State) (i : OrtIndex) :
    (State.loseEntry t s i).now = s.now := by
  simp only [State.loseEntry]; repeat (first | rfl | split | simp)
@[simp] theorem State.loseTarget_now (s : State) (t : Target) : (s.loseTarget t).now = s.now :=
  foldl_keeps (fun s => s.now) (State.loseEntry_now t) _ s
@[simp] theorem State.loseEntry_planes (t : Target) (s : State) (i : OrtIndex) :
    (State.loseEntry t s i).planes = s.planes := by
  simp only [State.loseEntry]; repeat (first | rfl | split | simp)
@[simp] theorem State.loseTarget_planes (s : State) (t : Target) : (s.loseTarget t).planes = s.planes :=
  foldl_keeps (fun s => s.planes) (State.loseEntry_planes t) _ s
@[simp] theorem State.loseEntry_generation (t : Target) (s : State) (i : OrtIndex) :
    (State.loseEntry t s i).generation = s.generation := by
  simp only [State.loseEntry]; repeat (first | rfl | split | simp)
@[simp] theorem State.loseTarget_generation (s : State) (t : Target) : (s.loseTarget t).generation = s.generation :=
  foldl_keeps (fun s => s.generation) (State.loseEntry_generation t) _ s
@[simp] theorem State.loseEntry_planeState (t : Target) (s : State) (i : OrtIndex) :
    (State.loseEntry t s i).planeState = s.planeState := by
  simp only [State.loseEntry]; repeat (first | rfl | split | simp)
@[simp] theorem State.loseTarget_planeState (s : State) (t : Target) : (s.loseTarget t).planeState = s.planeState :=
  foldl_keeps (fun s => s.planeState) (State.loseEntry_planeState t) _ s
@[simp] theorem State.loseEntry_refCounts (t : Target) (s : State) (i : OrtIndex) :
    (State.loseEntry t s i).refCounts = s.refCounts := by
  simp only [State.loseEntry]; repeat (first | rfl | split | simp)
@[simp] theorem State.loseTarget_refCounts (s : State) (t : Target) : (s.loseTarget t).refCounts = s.refCounts :=
  foldl_keeps (fun s => s.refCounts) (State.loseEntry_refCounts t) _ s
@[simp] theorem State.loseEntry_flushReports (t : Target) (s : State) (i : OrtIndex) :
    (State.loseEntry t s i).flushReports = s.flushReports := by
  simp only [State.loseEntry]; repeat (first | rfl | split | simp)
@[simp] theorem State.loseTarget_flushReports (s : State) (t : Target) : (s.loseTarget t).flushReports = s.flushReports :=
  foldl_keeps (fun s => s.flushReports) (State.loseEntry_flushReports t) _ s
@[simp] theorem State.loseEntry_announcements (t : Target) (s : State) (i : OrtIndex) :
    (State.loseEntry t s i).announcements = s.announcements := by
  simp only [State.loseEntry]; repeat (first | rfl | split | simp)
@[simp] theorem State.loseTarget_announcements (s : State) (t : Target) : (s.loseTarget t).announcements = s.announcements :=
  foldl_keeps (fun s => s.announcements) (State.loseEntry_announcements t) _ s
@[simp] theorem State.loseEntry_control (t : Target) (s : State) (i : OrtIndex) :
    (State.loseEntry t s i).control = s.control := by
  simp only [State.loseEntry]; repeat (first | rfl | split | simp)
@[simp] theorem State.loseTarget_control (s : State) (t : Target) : (s.loseTarget t).control = s.control :=
  foldl_keeps (fun s => s.control) (State.loseEntry_control t) _ s
@[simp] theorem State.loseEntry_targets (t : Target) (s : State) (i : OrtIndex) :
    (State.loseEntry t s i).targets = s.targets := by
  simp only [State.loseEntry]; repeat (first | rfl | split | simp)
@[simp] theorem State.loseTarget_targets (s : State) (t : Target) : (s.loseTarget t).targets = s.targets :=
  foldl_keeps (fun s => s.targets) (State.loseEntry_targets t) _ s
@[simp] theorem State.loseEntry_masterOut (t : Target) (s : State) (i : OrtIndex) :
    (State.loseEntry t s i).masterOut = s.masterOut := by
  simp only [State.loseEntry]; repeat (first | rfl | split | simp)
@[simp] theorem State.loseTarget_masterOut (s : State) (t : Target) : (s.loseTarget t).masterOut = s.masterOut :=
  foldl_keeps (fun s => s.masterOut) (State.loseEntry_masterOut t) _ s
@[simp] theorem State.loseEntry_targetOut (t : Target) (s : State) (i : OrtIndex) :
    (State.loseEntry t s i).targetOut = s.targetOut := by
  simp only [State.loseEntry]; repeat (first | rfl | split | simp)
@[simp] theorem State.loseTarget_targetOut (s : State) (t : Target) : (s.loseTarget t).targetOut = s.targetOut :=
  foldl_keeps (fun s => s.targetOut) (State.loseEntry_targetOut t) _ s
@[simp] theorem State.loseEntry_choices (t : Target) (s : State) (i : OrtIndex) :
    (State.loseEntry t s i).choices = s.choices := by
  simp only [State.loseEntry]; repeat (first | rfl | split | simp)
@[simp] theorem State.loseTarget_choices (s : State) (t : Target) : (s.loseTarget t).choices = s.choices :=
  foldl_keeps (fun s => s.choices) (State.loseEntry_choices t) _ s
@[simp] theorem State.loseEntry_pending (t : Target) (s : State) (i : OrtIndex) :
    (State.loseEntry t s i).pending = s.pending := by
  simp only [State.loseEntry]; repeat (first | rfl | split | simp)
@[simp] theorem State.loseTarget_pending (s : State) (t : Target) : (s.loseTarget t).pending = s.pending :=
  foldl_keeps (fun s => s.pending) (State.loseEntry_pending t) _ s

/-! ### leaveUp -/
@[simp] theorem State.leaveUp_pwronN (s : State) (t : Target) (c : DownCause) :
    (s.leaveUp t c).pwronN = s.pwronN := by
  simp [State.leaveUp]
@[simp] theorem State.leaveUp_straps (s : State) (t : Target) (c : DownCause) :
    (s.leaveUp t c).straps = s.straps := by
  simp [State.leaveUp]
@[simp] theorem State.leaveUp_now (s : State) (t : Target) (c : DownCause) :
    (s.leaveUp t c).now = s.now := by
  simp [State.leaveUp]
@[simp] theorem State.leaveUp_planes (s : State) (t : Target) (c : DownCause) :
    (s.leaveUp t c).planes = s.planes := by
  simp [State.leaveUp]
@[simp] theorem State.leaveUp_generation (s : State) (t : Target) (c : DownCause) :
    (s.leaveUp t c).generation = s.generation := by
  simp [State.leaveUp]
@[simp] theorem State.leaveUp_planeState (s : State) (t : Target) (c : DownCause) :
    (s.leaveUp t c).planeState = s.planeState := by
  simp [State.leaveUp]
@[simp] theorem State.leaveUp_refCounts (s : State) (t : Target) (c : DownCause) :
    (s.leaveUp t c).refCounts = s.refCounts := by
  simp [State.leaveUp]
@[simp] theorem State.leaveUp_flushReports (s : State) (t : Target) (c : DownCause) :
    (s.leaveUp t c).flushReports = s.flushReports := by
  simp [State.leaveUp]
@[simp] theorem State.leaveUp_control (s : State) (t : Target) (c : DownCause) :
    (s.leaveUp t c).control = s.control := by
  simp [State.leaveUp]
@[simp] theorem State.leaveUp_masterOut (s : State) (t : Target) (c : DownCause) :
    (s.leaveUp t c).masterOut = s.masterOut := by
  simp [State.leaveUp]
@[simp] theorem State.leaveUp_targetOut (s : State) (t : Target) (c : DownCause) :
    (s.leaveUp t c).targetOut = s.targetOut := by
  simp [State.leaveUp]
@[simp] theorem State.leaveUp_choices (s : State) (t : Target) (c : DownCause) :
    (s.leaveUp t c).choices = s.choices := by
  simp [State.leaveUp]
@[simp] theorem State.leaveUp_pending (s : State) (t : Target) (c : DownCause) :
    (s.leaveUp t c).pending = s.pending := by
  simp [State.leaveUp]

/-! ### flushPort -/
@[simp] theorem State.flushPort_pwronN (s : State) (m : Master) (d : PortState) :
    (s.flushPort m d).pwronN = s.pwronN := by
  simp [State.flushPort]
@[simp] theorem State.flushPort_straps (s : State) (m : Master) (d : PortState) :
    (s.flushPort m d).straps = s.straps := by
  simp [State.flushPort]
@[simp] theorem State.flushPort_now (s : State) (m : Master) (d : PortState) :
    (s.flushPort m d).now = s.now := by
  simp [State.flushPort]
@[simp] theorem State.flushPort_planes (s : State) (m : Master) (d : PortState) :
    (s.flushPort m d).planes = s.planes := by
  simp [State.flushPort]
@[simp] theorem State.flushPort_generation (s : State) (m : Master) (d : PortState) :
    (s.flushPort m d).generation = s.generation := by
  simp [State.flushPort]
@[simp] theorem State.flushPort_planeState (s : State) (m : Master) (d : PortState) :
    (s.flushPort m d).planeState = s.planeState := by
  simp [State.flushPort]
@[simp] theorem State.flushPort_refCounts (s : State) (m : Master) (d : PortState) :
    (s.flushPort m d).refCounts = s.refCounts := by
  simp [State.flushPort]
@[simp] theorem State.flushPort_announcements (s : State) (m : Master) (d : PortState) :
    (s.flushPort m d).announcements = s.announcements := by
  simp [State.flushPort]
@[simp] theorem State.flushPort_control (s : State) (m : Master) (d : PortState) :
    (s.flushPort m d).control = s.control := by
  simp [State.flushPort]
@[simp] theorem State.flushPort_targets (s : State) (m : Master) (d : PortState) :
    (s.flushPort m d).targets = s.targets := by
  simp [State.flushPort]
@[simp] theorem State.flushPort_masterOut (s : State) (m : Master) (d : PortState) :
    (s.flushPort m d).masterOut = s.masterOut := by
  simp [State.flushPort]
@[simp] theorem State.flushPort_targetOut (s : State) (m : Master) (d : PortState) :
    (s.flushPort m d).targetOut = s.targetOut := by
  simp [State.flushPort]
@[simp] theorem State.flushPort_choices (s : State) (m : Master) (d : PortState) :
    (s.flushPort m d).choices = s.choices := by
  simp [State.flushPort]
@[simp] theorem State.flushPort_pending (s : State) (m : Master) (d : PortState) :
    (s.flushPort m d).pending = s.pending := by
  simp [State.flushPort]

end Sys2Proof.Machine
end

