-- ==== Sys2Proof/Laws/Flush.lean ====
section
/-! SUPPORT. Entries, lanes and ports through retirement, lapse and the port flush. -/

namespace Sys2Proof.Machine

/-- Retirement as one update of the state (R75, R91). -/
theorem State.retire_eq (s : State) (i : OrtIndex) (u : OrtUse) : s.retire i u = s.retired i u := by
  unfold State.retire State.release State.clearEntry State.retired
  by_cases h : u.phase.inLane = true
  · simp only [h, if_true]; rfl
  · simp only [h]; rfl

/-- The response of an entry whose slot is RESERVED (R79, R89). -/
theorem State.respond_eq (s : State) (i : OrtIndex) (u : OrtUse) (st : Status) (data : List Byte)
    (h : .ort i ∈ (s.port u.master).resp.reserved) :
    s.respond i u st data = s.answered i u st data := by
  simp only [State.respond, State.answered, State.fill, State.modResp, State.modPort,
    ResponseUnit.fill, h]
  cases u.kind <;> simp

/-- The report of a failure of an entry whose promised slot is RESERVED (R89, R90). -/
theorem State.reportFailure_eq (s : State) (i : OrtIndex) (u : OrtUse) (st : Status)
    (h : u.responseOwed = true → .ort i ∈ (s.port u.master).resp.reserved) :
    s.reportFailure i u st = s.failureReported i u st := by
  simp only [State.reportFailure, State.failureReported]
  by_cases hk : u.kind = .writeP
  · simp [hk]
  · simp only [hk, if_false]
    cases ho : u.responseOwed with
    | false => rfl
    | true => simp only [if_true]; exact State.respond_eq _ _ _ _ _ (h ho)

/-- After `retire` the entry has left its lane. -/
theorem State.lane_retire (s : State) (i : OrtIndex) (u : OrtUse) (a : Target) (b : Master) :
    (s.retire i u).lane a b =
      if u.phase.inLane = true ∧ a = u.target ∧ b = u.master then (s.lane a b).erase i else s.lane a b := by
  by_cases h : u.phase.inLane = true
  · have e : (s.retire i u).lanes = (s.setLane u.target u.master ((s.lane u.target u.master).erase i)).lanes := by
      unfold State.retire State.release State.clearEntry
      simp only [h, if_true]; rfl
    rw [State.lane_congr e, State.lane_setLane]
    by_cases hc : a = u.target ∧ b = u.master
    · rw [if_pos hc, if_pos ⟨h, hc⟩, hc.1, hc.2]
    · rw [if_neg hc, if_neg (fun x => hc x.2)]
  · have e : (s.retire i u).lanes = s.lanes := by
      unfold State.retire State.release State.clearEntry
      simp only [h]; rfl
    rw [State.lane_congr e, if_neg (fun x => h x.1)]

theorem State.entry_retire (s : State) (i : OrtIndex) (u : OrtUse) (j : OrtIndex) :
    (s.retire i u).entry j = if j = i then { s.entry i with use := none } else s.entry j := by
  have e : (s.retire i u).ort = (s.setUse i none).ort := by
    unfold State.retire State.release State.clearEntry
    by_cases h : u.phase.inLane = true <;> simp only [h, if_true] <;> rfl
  rw [State.entry_congr e, State.entry_setUse]

theorem State.lane_lapse (s : State) (i : OrtIndex) (u : OrtUse) (h : u.phase.inLane = false) (a : Target)
    (b : Master) : (s.lapse i u).lane a b = s.lane a b := by
  have e : (s.lapse i u).lanes = s.lanes := by
    unfold State.lapse State.release
    simp only [h]; rfl
  exact State.lane_congr e a b

theorem State.entry_lapse (s : State) (i : OrtIndex) (u : OrtUse) (j : OrtIndex) :
    (s.lapse i u).entry j =
      if j = i then
        { s.entry i with use := some { u with
            phase := .lapsed (s.now + s.classValue (s.window u.plane u.window).deadlineClass)
            blocks := 0, data := [], responseOwed := false } }
      else s.entry j := by
  have e : (s.lapse i u).ort = (s.setUse i (some { u with
      phase := .lapsed (s.now + s.classValue (s.window u.plane u.window).deadlineClass)
      blocks := 0, data := [], responseOwed := false })).ort := by
    unfold State.lapse State.release
    by_cases h : u.phase.inLane = true <;> simp only [h, if_true] <;> rfl
  rw [State.entry_congr e, State.entry_setUse]

/-- Retirement of the entry that stands at `i` keeps the lane law. -/
theorem State.LaneLaw.retire {s : State} (hl : s.LaneLaw) {i : OrtIndex} {u : OrtUse}
    (hu : (s.entry i).use = some u) : (s.retire i u).LaneLaw := by
  obtain ⟨h1, h2, h3⟩ := hl
  have hnot : ∀ a b, i ∈ s.lane a b → u.phase.inLane = true ∧ a = u.target ∧ b = u.master := by
    intro a b hi
    obtain ⟨v, hv, hin, ht, hm⟩ := h2 a b i hi
    rw [hu] at hv; cases hv
    exact ⟨hin, ht.symm, hm.symm⟩
  have hmem : ∀ a b j, j ∈ (s.retire i u).lane a b ↔ j ∈ s.lane a b ∧ j ≠ i := by
    intro a b j
    rw [State.lane_retire]
    split
    · rw [(h3 a b).1.mem_erase_iff]; exact and_comm
    · next hc =>
      constructor
      · intro hj; exact ⟨hj, fun e => hc (hnot a b (e ▸ hj))⟩
      · exact fun h => h.1
  refine ⟨?_, ?_, ?_⟩
  · intro j v hv hin
    rw [State.entry_retire] at hv
    split at hv
    · cases hv
    · next hj => exact (hmem _ _ _).mpr ⟨h1 j v hv hin, hj⟩
  · intro t m j hj
    obtain ⟨hj, hne⟩ := (hmem _ _ _).mp hj
    obtain ⟨v, hv, r⟩ := h2 t m j hj
    exact ⟨v, by rw [State.entry_retire, if_neg hne]; exact hv, r⟩
  · intro t m
    rw [State.lane_retire]
    split
    · exact ⟨(h3 t m).1.erase i, le_trans (List.length_erase_le) (h3 t m).2⟩
    · exact h3 t m

/-- Rewriting the entry at `i` by one with the same lane place keeps the lane law. -/
theorem State.LaneLaw.update {s t : State} (hl : s.LaneLaw) {i : OrtIndex} {u v : OrtUse}
    (hu : (s.entry i).use = some u) (hlane : ∀ a b, t.lane a b = s.lane a b)
    (hi : (t.entry i).use = some v) (hne : ∀ j, j ≠ i → (t.entry j).use = (s.entry j).use)
    (h : v.phase.inLane = u.phase.inLane ∧ v.target = u.target ∧ v.master = u.master) : t.LaneLaw := by
  obtain ⟨h1, h2, h3⟩ := hl
  obtain ⟨e1, e2, e3⟩ := h
  refine ⟨?_, ?_, ?_⟩
  · intro j w hw hin
    rw [hlane]
    by_cases hj : j = i
    · subst hj
      rw [hi] at hw; cases hw
      rw [e2, e3]; exact h1 j u hu (e1 ▸ hin)
    · exact h1 j w (hne j hj ▸ hw) hin
  · intro a b j hj
    rw [hlane] at hj
    obtain ⟨w, hw, r1, r2, r3⟩ := h2 a b j hj
    by_cases hji : j = i
    · subst hji
      rw [hu] at hw; cases hw
      exact ⟨v, hi, e1 ▸ r1, e2 ▸ r2, e3 ▸ r3⟩
    · exact ⟨w, (hne j hji).symm ▸ hw, r1, r2, r3⟩
  · intro a b; rw [hlane]; exact h3 a b

/-- What one step of the port flush leaves of each entry. -/
theorem State.entry_flushEntry (m : Master) (s : State) (i j : OrtIndex) :
    (State.flushEntry m s i).entry j =
      if j = i then { s.entry i with use := (s.entry i).use.bind (s.afterFlush m) } else s.entry j := by
  have same : ∀ u, (s.entry i).use = u →
      s.entry j = if j = i then { s.entry i with use := u } else s.entry j := by
    intro u hu
    split
    · next h => rw [h, ← hu]
    · rfl
  unfold State.flushEntry
  cases hu : (s.entry i).use with
  | none => exact same _ hu
  | some u =>
    have same := same _ hu
    simp only [Option.bind_some, State.afterFlush]
    by_cases hm : u.master = m
    swap
    · rw [if_neg hm, if_pos hm]; exact same
    rw [if_pos hm, if_neg (not_not.mpr hm)]
    by_cases hk : u.kind = .writeP
    · rw [if_pos hk, if_pos hk]
      by_cases hc : u.phase.counted = true
      · rw [if_pos hc, if_pos hc, State.entry_setUse]
      · rw [if_neg hc, if_neg hc]; exact same
    rw [if_neg hk, if_neg hk]
    by_cases ho : u.responseOwed = true
    swap
    · rw [if_neg ho, if_pos (show (!u.responseOwed) = true by simpa using ho)]; exact same
    rw [if_pos ho, if_neg (show ¬(!u.responseOwed) = true by simpa using ho)]
    cases hp : u.phase with
    | waiting d => rw [if_pos (show (OrtPhase.waiting d).inLane = true from rfl), State.entry_retire]
    | backoff d b =>
      rw [if_pos (show (OrtPhase.backoff d b).inLane = true from rfl), State.entry_retire]
    | issued d =>
      rw [if_neg (show ¬(OrtPhase.issued d).inLane = true by simp [OrtPhase.inLane]),
        if_pos (show (OrtPhase.issued d).isIssued = true from rfl), State.entry_lapse]
    | lapsed l =>
      rw [if_neg (show ¬(OrtPhase.lapsed l).inLane = true by simp [OrtPhase.inLane]),
        if_neg (show ¬(OrtPhase.lapsed l).isIssued = true by simp [OrtPhase.isIssued])]
      exact same

/-- One step of the port flush keeps the lane law, and each lane keeps the entries that are not freed. -/
theorem State.LaneLaw.flushEntry {s : State} (hl : s.LaneLaw) (m : Master) (i : OrtIndex) :
    (State.flushEntry m s i).LaneLaw ∧ ∀ a b, (State.flushEntry m s i).lane a b =
      (s.lane a b).filter fun j => ((State.flushEntry m s i).entry j).use.isSome := by
  have keep : ∀ t : State, (∀ a b, t.lane a b = s.lane a b) →
      (∀ j, (s.entry j).use.isSome = true → (t.entry j).use.isSome = true) →
      ∀ a b, t.lane a b = (s.lane a b).filter fun j => (t.entry j).use.isSome := by
    intro t h1 h2 a b
    rw [h1, eq_comm, List.filter_eq_self]
    intro j hj
    obtain ⟨u, hu, _⟩ := hl.2.1 a b j hj
    exact h2 j (by rw [hu]; rfl)
  have same : s.LaneLaw ∧ ∀ a b, s.lane a b = (s.lane a b).filter fun j => (s.entry j).use.isSome :=
    ⟨hl, keep s (fun _ _ => rfl) (fun _ h => h)⟩
  unfold State.flushEntry
  cases hu : (s.entry i).use with
  | none => exact same
  | some u =>
    simp only
    have upd : ∀ (t : State) (v : OrtUse), (∀ a b, t.lane a b = s.lane a b) →
        (∀ j, t.entry j = if j = i then { s.entry i with use := some v } else s.entry j) →
        (v.phase.inLane = u.phase.inLane ∧ v.target = u.target ∧ v.master = u.master) →
        t.LaneLaw ∧ ∀ a b, t.lane a b = (s.lane a b).filter fun j => (t.entry j).use.isSome := by
      intro t v h1 h2 h3
      refine ⟨hl.update hu h1 (by rw [h2, if_pos rfl]) (fun j hj => by rw [h2, if_neg hj]) h3,
        keep t h1 fun j hj => ?_⟩
      rw [h2]; split
      · rfl
      · exact hj
    split
    · split
      · split
        · exact upd _ { u with failureReporting := false } (fun _ _ => rfl)
            (fun j => State.entry_setUse s i j _) ⟨rfl, rfl, rfl⟩
        · exact same
      · split
        · split
          · next hin =>
            refine ⟨hl.retire hu, fun a b => ?_⟩
            have h2 : ∀ j ∈ s.lane a b, ((s.retire i u).entry j).use.isSome = decide (j ≠ i) := by
              intro j hj
              rw [State.entry_retire]
              obtain ⟨v, hv, _⟩ := hl.2.1 a b j hj
              by_cases h : j = i
              · simp [h]
              · simp [h, hv]
            rw [List.filter_congr h2, State.lane_retire]
            split
            · rw [(hl.2.2 a b).1.erase_eq_filter]
              apply List.filter_congr
              intro j _; by_cases h : j = i <;> simp [h]
            · next hc =>
              rw [eq_comm, List.filter_eq_self]
              intro j hj
              refine decide_eq_true fun e => hc ?_
              obtain ⟨v, hv, _, h4, h5⟩ := hl.2.1 a b j hj
              rw [e, hu] at hv; cases hv
              exact ⟨hin, h4.symm, h5.symm⟩
          · next hin =>
            split
            · exact upd _ _ (fun a b => State.lane_lapse s i u (by simpa using hin) a b)
                (fun j => State.entry_lapse s i u j) ⟨by simpa [OrtPhase.inLane] using hin, rfl, rfl⟩
            · exact same
        · exact same
    · exact same

/-- The fields that decide a flush do not change while it runs. -/
theorem State.afterFlush_flushEntry (m : Master) (s : State) (i : OrtIndex) (u : OrtUse) :
    (State.flushEntry m s i).afterFlush m u = s.afterFlush m u := by
  have e : ∀ d, (State.flushEntry m s i).classValue d = s.classValue d := by
    intro d; simp [State.classValue]
  have w : ∀ p x, (State.flushEntry m s i).window p x = s.window p x := by
    intro p x; simp [State.window]
  simp only [State.afterFlush, e, w, State.flushEntry_now]

/-- The port flush over a list of entries, taken one after the other. -/
theorem State.entry_flushList (m : Master) (l : List OrtIndex) (h : l.Nodup) (s : State) (j : OrtIndex) :
    (l.foldl (State.flushEntry m) s).entry j =
      if j ∈ l then { s.entry j with use := (s.entry j).use.bind (s.afterFlush m) } else s.entry j := by
  induction l generalizing s with
  | nil => simp
  | cons i l ih =>
    obtain ⟨hi, hl⟩ := List.nodup_cons.mp h
    have ha : (State.flushEntry m s i).afterFlush m = s.afterFlush m :=
      funext fun u => State.afterFlush_flushEntry m s i u
    rw [List.foldl_cons, ih hl, ha, State.entry_flushEntry]
    by_cases hj : j = i
    · subst hj; simp [hi]
    · simp [hj]

theorem State.lane_flushList (m : Master) (l : List OrtIndex) (s : State) (hs : s.LaneLaw) :
    (l.foldl (State.flushEntry m) s).LaneLaw ∧ ∀ a b, (l.foldl (State.flushEntry m) s).lane a b =
      (s.lane a b).filter fun j => ((l.foldl (State.flushEntry m) s).entry j).use.isSome := by
  induction l generalizing s with
  | nil =>
    refine ⟨hs, fun a b => ?_⟩
    rw [eq_comm, List.foldl_nil, List.filter_eq_self]
    intro j hj
    obtain ⟨u, hu, _⟩ := hs.2.1 a b j hj
    simp [hu]
  | cons i l ih =>
    obtain ⟨h1, h2⟩ := hs.flushEntry m i
    obtain ⟨h3, h4⟩ := ih _ h1
    refine ⟨h3, fun a b => ?_⟩
    rw [List.foldl_cons, h4, h2, List.filter_filter]
    apply List.filter_congr
    intro j _
    have mono : ∀ (l : List OrtIndex) (s : State), ((l.foldl (State.flushEntry m) s).entry j).use.isSome = true →
        (s.entry j).use.isSome = true := by
      intro l
      induction l with
      | nil => exact fun _ h => h
      | cons k l ih2 =>
        intro s h
        have := ih2 _ h
        rw [State.entry_flushEntry] at this
        split at this
        · next e =>
          rw [e]
          cases hu : (s.entry k).use with
          | none => rw [hu] at this; exact this
          | some _ => rfl
        · exact this
    cases hx : ((l.foldl (State.flushEntry m) (State.flushEntry m s i)).entry j).use.isSome with
    | false => rfl
    | true => simp [mono l _ hx]

/-- The port flush of the ORT, entry by entry (R94). -/
theorem State.entry_flushOrt (s : State) (m : Master) (j : OrtIndex) :
    (s.flushOrt m).entry j = { s.entry j with use := (s.entry j).use.bind (s.afterFlush m) } := by
  rw [State.flushOrt, State.entry_flushList m ortIndices (List.nodup_finRange 64)]
  simp [ortIndices]

/-- The port flush keeps the lane law, and the freed entries leave their lanes. -/
theorem State.lane_flushOrt {s : State} (hs : s.LaneLaw) (m : Master) :
    (s.flushOrt m).LaneLaw ∧ ∀ a b, (s.flushOrt m).lane a b =
      (s.lane a b).filter fun j => ((s.flushOrt m).entry j).use.isSome :=
  State.lane_flushList m ortIndices s hs

/-- What decides a flush of an entry: the time, the settings and the planes. -/
theorem State.afterFlush_congr {s t : State} (m : Master) (h1 : t.now = s.now) (h2 : t.control = s.control)
    (h3 : t.planes = s.planes) : t.afterFlush m = s.afterFlush m := by
  funext u
  simp only [State.afterFlush, State.classValue, State.window, h1, h2, h3]

/-- The port after its own part of a port flush, before the ORT acts (R168). -/
def State.portFlushed (s : State) (m : Master) (d : PortState) : State :=
  s.modPort m fun p =>
    { p with state := d, ingress := p.ingress.flush d, resp := s.flushResp m p.resp,
             fence := FenceTracker.powerOn }

theorem State.flushPort_eq (s : State) (m : Master) (d : PortState) :
    s.flushPort m d =
      { (s.portFlushed m d).flushOrt m with
        flushReports := ((s.portFlushed m d).flushOrt m).flushReports.set m
          (((s.portFlushed m d).flushOrt m).flushReports[m] + 1) } := by
  unfold State.flushPort State.portFlushed
  rfl

theorem State.port_flushPort (s : State) (m a : Master) (d : PortState) :
    (s.flushPort m d).port a =
      if a = m then
        { s.port m with state := d, ingress := (s.port m).ingress.flush d,
                        resp := s.flushResp m (s.port m).resp, fence := FenceTracker.powerOn }
      else s.port a := by
  rw [State.port_congr (t := s.portFlushed m d) (by rw [State.flushPort_eq]; simp)]
  simp [State.portFlushed]

theorem State.entry_flushPort (s : State) (m : Master) (d : PortState) (i : OrtIndex) :
    (s.flushPort m d).entry i = { s.entry i with use := (s.entry i).use.bind (s.afterFlush m) } := by
  rw [State.entry_congr (t := (s.portFlushed m d).flushOrt m) (by rw [State.flushPort_eq]),
    State.entry_flushOrt, State.afterFlush_congr (s := s) (t := s.portFlushed m d) m rfl rfl rfl]
  rfl

theorem State.lane_flushPort {s : State} (hs : s.LaneLaw) (m : Master) (d : PortState) (a : Target)
    (b : Master) :
    (s.flushPort m d).lane a b =
      (s.lane a b).filter fun i => ((s.flushPort m d).entry i).use.isSome := by
  have hs : (s.portFlushed m d).LaneLaw := hs
  rw [State.lane_congr (t := (s.portFlushed m d).flushOrt m) (by rw [State.flushPort_eq]),
    (State.lane_flushOrt hs m).2]
  refine List.filter_congr fun i _ => ?_
  rw [State.entry_congr (s := s.flushPort m d) (t := (s.portFlushed m d).flushOrt m)
    (by rw [State.flushPort_eq])]

/-! ### What the ORT's walk over its entries adds up to -/

theorem countP_eq_sum {α : Type} (p : α → Bool) (l : List α) :
    l.countP p = (l.map fun a => if p a then 1 else 0).sum := by
  induction l with
  | nil => rfl
  | cons a l ih => simp [List.countP_cons, ih, Nat.add_comm]

theorem State.entriesWhere_eq (s : State) (f : OrtUse → Bool) :
    s.entriesWhere f = (ortIndices.map fun i => ((s.entry i).use.elim 0 fun u => if f u then 1 else 0)).sum := by
  rw [State.entriesWhere, countP_eq_sum]
  congr 1
  refine List.map_congr_left fun i _ => ?_
  cases (s.entry i).use <;> rfl

theorem State.blocksWhere_eq (s : State) (f : OrtUse → Bool) :
    s.blocksWhere f =
      (ortIndices.map fun i => ((s.entry i).use.elim 0 fun u => if f u then u.blocks else 0)).sum := by
  rw [State.blocksWhere]
  congr 1
  refine List.map_congr_left fun i _ => ?_
  cases (s.entry i).use <;> rfl

/-- A walk over the entries that acts at each by its own fields alone adds up what it adds at each. -/
theorem foldl_adds {f : State → OrtIndex → State} {g : State → Nat} {φ : Option OrtUse → Nat}
    (hne : ∀ s i j, j ≠ i → (f s i).entry j = s.entry j)
    (hg : ∀ s i, g (f s i) = g s + φ (s.entry i).use) (s : State) :
    g (ortIndices.foldl f s) = g s + (ortIndices.map fun i => φ (s.entry i).use).sum := by
  have key : ∀ (l : List OrtIndex), l.Nodup → ∀ s,
      g (l.foldl f s) = g s + (l.map fun i => φ (s.entry i).use).sum := by
    intro l
    induction l with
    | nil => intro _ s; rfl
    | cons i l ih =>
      intro hl s
      obtain ⟨hi, hl⟩ := List.nodup_cons.mp hl
      have : (l.map fun j => φ ((f s i).entry j).use) = l.map fun j => φ (s.entry j).use :=
        List.map_congr_left fun j hj => by rw [hne s i j (fun e => hi (e ▸ hj))]
      rw [List.foldl_cons, ih hl, this, hg, List.map_cons, List.sum_cons]
      omega
  exact key _ (List.nodup_finRange 64) s

/-- A walk over the entries that lowers a count at each lowers it by the sum. -/
theorem foldl_lowers {f : State → OrtIndex → State} {g : State → Nat} {φ : Option OrtUse → Nat}
    (hne : ∀ s i j, j ≠ i → (f s i).entry j = s.entry j)
    (hg : ∀ s i, g (f s i) = g s - φ (s.entry i).use) (s : State) :
    g (ortIndices.foldl f s) = g s - (ortIndices.map fun i => φ (s.entry i).use).sum := by
  have key : ∀ (l : List OrtIndex), l.Nodup → ∀ s,
      g (l.foldl f s) = g s - (l.map fun i => φ (s.entry i).use).sum := by
    intro l
    induction l with
    | nil => intro _ s; rfl
    | cons i l ih =>
      intro hl s
      obtain ⟨hi, hl⟩ := List.nodup_cons.mp hl
      have : (l.map fun j => φ ((f s i).entry j).use) = l.map fun j => φ (s.entry j).use :=
        List.map_congr_left fun j hj => by rw [hne s i j (fun e => hi (e ▸ hj))]
      rw [List.foldl_cons, ih hl, this, hg, List.map_cons, List.sum_cons]
      omega
  exact key _ (List.nodup_finRange 64) s

theorem State.release_freeBlocks (s : State) (i : OrtIndex) (u : OrtUse) :
    (s.release i u).freeBlocks = s.freeBlocks + u.blocks := by
  simp only [State.release]; split <;> rfl

theorem State.release_decrements (s : State) (i : OrtIndex) (u : OrtUse) (p : PlaneId) :
    (s.release i u).decrements[p] = s.decrements[p] + if u.plane = p then 1 else 0 := by
  have : (s.release i u).decrements = s.decrements.set u.plane (s.decrements[u.plane] + 1) := by
    simp only [State.release]; split <;> rfl
  rw [this]
  simp only [Fin.getElem_fin, Vector.getElem_set, Fin.ext_iff]
  split <;> rename_i h <;> simp [h]

theorem State.clearEntry_heldAt (s : State) (i : OrtIndex) (u : OrtUse) (m : Master) :
    (s.clearEntry i u).held[m] = s.held[m] - if u.master = m then 1 else 0 := by
  have : (s.clearEntry i u).held = s.held.set u.master (s.held[u.master] - 1) := rfl
  rw [this]
  simp only [Fin.getElem_fin, Vector.getElem_set, Fin.ext_iff]
  split <;> rename_i h <;> simp [h]

/-- What one step of the port flush adds to the free blocks and the decrements, and takes from the held
counts. -/
theorem State.counts_flushEntry (m : Master) (s : State) (i : OrtIndex) :
    (State.flushEntry m s i).freeBlocks = s.freeBlocks +
        ((s.entry i).use.elim 0 fun u => if u.countedOff m then u.blocks else 0) ∧
    (∀ p : PlaneId, (State.flushEntry m s i).decrements[p] = s.decrements[p] +
        ((s.entry i).use.elim 0 fun u => if u.countedOff m && u.plane == p then 1 else 0)) ∧
    (∀ a : Master, (State.flushEntry m s i).held[a] = s.held[a] -
        ((s.entry i).use.elim 0 fun u =>
          if u.countedOff m && u.phase.inLane && a == m then 1 else 0)) := by
  unfold State.flushEntry
  cases hu : (s.entry i).use with
  | none => simp
  | some u =>
    simp only [Option.elim_some, OrtUse.countedOff]
    by_cases hm : u.master = m
    swap
    · simp [hm]
    by_cases hk : u.kind = .writeP
    · simp only [hm, hk, if_true]
      split <;> simp [State.setUse]
    by_cases ho : u.responseOwed = true
    swap
    · simp [hm, hk, ho]
    simp only [hm, hk, ho, if_true, if_false]
    have e1 : ∀ a : Master, (if m = a then 1 else 0) = if a = m then 1 else 0 := by
      intro a; simp only [eq_comm]
    have ret : (s.retire i u).freeBlocks = s.freeBlocks + u.blocks ∧
        (∀ p : PlaneId, (s.retire i u).decrements[p] = s.decrements[p] + if u.plane = p then 1 else 0) ∧
        (∀ a : Master, (s.retire i u).held[a] = s.held[a] - if a = m then 1 else 0) := by
      refine ⟨State.release_freeBlocks s i u, State.release_decrements s i u, fun a => ?_⟩
      rw [State.retire, State.clearEntry_heldAt, State.release_held, hm]
      congr 1
      exact e1 a
    have lap : (s.lapse i u).freeBlocks = s.freeBlocks + u.blocks ∧
        (∀ p : PlaneId, (s.lapse i u).decrements[p] = s.decrements[p] + if u.plane = p then 1 else 0) ∧
        (∀ a : Master, (s.lapse i u).held[a] = s.held[a]) :=
      ⟨State.release_freeBlocks s i u, State.release_decrements s i u,
        fun a => by rw [State.lapse_held]⟩
    cases hp : u.phase with
    | waiting d => simpa [hk, OrtPhase.inLane, OrtPhase.counted] using ret
    | backoff d b => simpa [hk, OrtPhase.inLane, OrtPhase.counted] using ret
    | issued d => simpa [hk, OrtPhase.inLane, OrtPhase.counted, OrtPhase.isIssued] using lap
    | lapsed l => simp [OrtPhase.inLane, OrtPhase.counted, OrtPhase.isIssued]

/-- What a flush does outside the master ports does not depend on them. -/
theorem State.Flushed.masters {s t : State} {m : Master} (h : s.Flushed t m) (v : Vector MasterPort 4) :
    s.Flushed { t with masters := v } m :=
  ⟨h.entries, h.lanes, h.blocks, h.decrements, h.held, h.reported, h.map, h.rest⟩

/-- Everything the port flush does outside the port of its master (R94, R168). -/
theorem State.flushPort_flushed {s : State} (hs : s.LaneLaw) (m : Master) (d : PortState) :
    s.Flushed (s.flushPort m d) m := by
  have hne : ∀ (s : State) (i j : OrtIndex), j ≠ i → (State.flushEntry m s i).entry j = s.entry j :=
    fun s i j h => by rw [State.entry_flushEntry, if_neg h]
  have he : ∀ i, (s.portFlushed m d).entry i = s.entry i := fun _ => rfl
  constructor
  · exact State.entry_flushPort s m d
  · exact State.lane_flushPort hs m d
  · have := foldl_adds (g := fun s => s.freeBlocks)
      (φ := fun u => u.elim 0 fun u => if u.countedOff m then u.blocks else 0) hne
      (fun s i => (State.counts_flushEntry m s i).1) (s.portFlushed m d)
    have e : (s.portFlushed m d).freeBlocks = s.freeBlocks := rfl
    simp only [he, e] at this
    rw [State.blocksWhere_eq, ← this, State.flushPort_eq, State.flushOrt]
  · intro p
    have := foldl_adds (g := fun s => s.decrements[p])
      (φ := fun u => u.elim 0 fun u => if u.countedOff m && u.plane == p then 1 else 0) hne
      (fun s i => (State.counts_flushEntry m s i).2.1 p) (s.portFlushed m d)
    have e : (s.portFlushed m d).decrements = s.decrements := rfl
    simp only [he, e] at this
    rw [State.entriesWhere_eq, ← this, State.flushPort_eq, State.flushOrt]
  · intro a
    have := foldl_lowers (g := fun s => s.held[a])
      (φ := fun u => u.elim 0 fun u => if u.countedOff m && u.phase.inLane && a == m then 1 else 0) hne
      (fun s i => (State.counts_flushEntry m s i).2.2 a) (s.portFlushed m d)
    have e : (s.portFlushed m d).held = s.held := rfl
    simp only [he, e] at this
    have e : (s.flushPort m d).held =
        (ortIndices.foldl (State.flushEntry m) (s.portFlushed m d)).held := by
      rw [State.flushPort_eq, State.flushOrt]
    rw [State.entriesWhere_eq, e, this]
    by_cases h : a = m
    · subst h; simp only [beq_self_eq_true, Bool.and_true, if_true]
    · have h0 : (ortIndices.map fun i => (s.entry i).use.elim 0 fun u =>
          if u.countedOff m && u.phase.inLane && a == m then 1 else 0).sum = 0 := by
        rw [List.sum_eq_zero_iff]
        intro n hn
        obtain ⟨i, _, rfl⟩ := List.mem_map.mp hn
        cases (s.entry i).use <;> simp [h]
      rw [h0, if_neg h]
  · simp [State.flushPort_eq, State.portFlushed]
  · simp
  · simp

end Sys2Proof.Machine
end

