-- ==== Sys2Proof/Laws/Head.lean ====
section
/-! SUPPORT. What the data head's shared operations leave unchanged. -/

namespace Sys2Proof.Machine

/-! ### admitHead -/
@[simp] theorem State.admitHead_pwronN (s : State) (m : Master) (q : Request) (r : Routing) (k : Kind) (i : OrtIndex) :
    (s.admitHead m q r k i).pwronN = s.pwronN := by
  simp [State.admitHead]
@[simp] theorem State.admitHead_straps (s : State) (m : Master) (q : Request) (r : Routing) (k : Kind) (i : OrtIndex) :
    (s.admitHead m q r k i).straps = s.straps := by
  simp [State.admitHead]
@[simp] theorem State.admitHead_now (s : State) (m : Master) (q : Request) (r : Routing) (k : Kind) (i : OrtIndex) :
    (s.admitHead m q r k i).now = s.now := by
  simp [State.admitHead]
@[simp] theorem State.admitHead_planes (s : State) (m : Master) (q : Request) (r : Routing) (k : Kind) (i : OrtIndex) :
    (s.admitHead m q r k i).planes = s.planes := by
  simp [State.admitHead]
@[simp] theorem State.admitHead_generation (s : State) (m : Master) (q : Request) (r : Routing) (k : Kind) (i : OrtIndex) :
    (s.admitHead m q r k i).generation = s.generation := by
  simp [State.admitHead]
@[simp] theorem State.admitHead_planeState (s : State) (m : Master) (q : Request) (r : Routing) (k : Kind) (i : OrtIndex) :
    (s.admitHead m q r k i).planeState = s.planeState := by
  simp [State.admitHead]
@[simp] theorem State.admitHead_decrements (s : State) (m : Master) (q : Request) (r : Routing) (k : Kind) (i : OrtIndex) :
    (s.admitHead m q r k i).decrements = s.decrements := by
  simp [State.admitHead]
@[simp] theorem State.admitHead_flushReports (s : State) (m : Master) (q : Request) (r : Routing) (k : Kind) (i : OrtIndex) :
    (s.admitHead m q r k i).flushReports = s.flushReports := by
  simp [State.admitHead]
@[simp] theorem State.admitHead_announcements (s : State) (m : Master) (q : Request) (r : Routing) (k : Kind) (i : OrtIndex) :
    (s.admitHead m q r k i).announcements = s.announcements := by
  simp [State.admitHead]
@[simp] theorem State.admitHead_control (s : State) (m : Master) (q : Request) (r : Routing) (k : Kind) (i : OrtIndex) :
    (s.admitHead m q r k i).control = s.control := by
  simp [State.admitHead]
@[simp] theorem State.admitHead_targets (s : State) (m : Master) (q : Request) (r : Routing) (k : Kind) (i : OrtIndex) :
    (s.admitHead m q r k i).targets = s.targets := by
  simp [State.admitHead]
@[simp] theorem State.admitHead_masterOut (s : State) (m : Master) (q : Request) (r : Routing) (k : Kind) (i : OrtIndex) :
    (s.admitHead m q r k i).masterOut = s.masterOut := by
  simp [State.admitHead]
@[simp] theorem State.admitHead_targetOut (s : State) (m : Master) (q : Request) (r : Routing) (k : Kind) (i : OrtIndex) :
    (s.admitHead m q r k i).targetOut = s.targetOut := by
  simp [State.admitHead]
@[simp] theorem State.admitHead_choices (s : State) (m : Master) (q : Request) (r : Routing) (k : Kind) (i : OrtIndex) :
    (s.admitHead m q r k i).choices = s.choices := by
  simp [State.admitHead]
@[simp] theorem State.admitHead_pending (s : State) (m : Master) (q : Request) (r : Routing) (k : Kind) (i : OrtIndex) :
    (s.admitHead m q r k i).pending = s.pending := by
  simp [State.admitHead]

/-! ### admitOrWait -/
@[simp] theorem State.admitOrWait_pwronN (s : State) (m : Master) (q : Request) (r : Routing) (k : Kind) :
    (s.admitOrWait m q r k).pwronN = s.pwronN := by
  simp only [State.admitOrWait]; repeat (first | rfl | split | simp)
@[simp] theorem State.admitOrWait_straps (s : State) (m : Master) (q : Request) (r : Routing) (k : Kind) :
    (s.admitOrWait m q r k).straps = s.straps := by
  simp only [State.admitOrWait]; repeat (first | rfl | split | simp)
@[simp] theorem State.admitOrWait_now (s : State) (m : Master) (q : Request) (r : Routing) (k : Kind) :
    (s.admitOrWait m q r k).now = s.now := by
  simp only [State.admitOrWait]; repeat (first | rfl | split | simp)
@[simp] theorem State.admitOrWait_planes (s : State) (m : Master) (q : Request) (r : Routing) (k : Kind) :
    (s.admitOrWait m q r k).planes = s.planes := by
  simp only [State.admitOrWait]; repeat (first | rfl | split | simp)
@[simp] theorem State.admitOrWait_generation (s : State) (m : Master) (q : Request) (r : Routing) (k : Kind) :
    (s.admitOrWait m q r k).generation = s.generation := by
  simp only [State.admitOrWait]; repeat (first | rfl | split | simp)
@[simp] theorem State.admitOrWait_planeState (s : State) (m : Master) (q : Request) (r : Routing) (k : Kind) :
    (s.admitOrWait m q r k).planeState = s.planeState := by
  simp only [State.admitOrWait]; repeat (first | rfl | split | simp)
@[simp] theorem State.admitOrWait_decrements (s : State) (m : Master) (q : Request) (r : Routing) (k : Kind) :
    (s.admitOrWait m q r k).decrements = s.decrements := by
  simp only [State.admitOrWait]; repeat (first | rfl | split | simp)
@[simp] theorem State.admitOrWait_flushReports (s : State) (m : Master) (q : Request) (r : Routing) (k : Kind) :
    (s.admitOrWait m q r k).flushReports = s.flushReports := by
  simp only [State.admitOrWait]; repeat (first | rfl | split | simp)
@[simp] theorem State.admitOrWait_announcements (s : State) (m : Master) (q : Request) (r : Routing) (k : Kind) :
    (s.admitOrWait m q r k).announcements = s.announcements := by
  simp only [State.admitOrWait]; repeat (first | rfl | split | simp)
@[simp] theorem State.admitOrWait_control (s : State) (m : Master) (q : Request) (r : Routing) (k : Kind) :
    (s.admitOrWait m q r k).control = s.control := by
  simp only [State.admitOrWait]; repeat (first | rfl | split | simp)
@[simp] theorem State.admitOrWait_targets (s : State) (m : Master) (q : Request) (r : Routing) (k : Kind) :
    (s.admitOrWait m q r k).targets = s.targets := by
  simp only [State.admitOrWait]; repeat (first | rfl | split | simp)
@[simp] theorem State.admitOrWait_masterOut (s : State) (m : Master) (q : Request) (r : Routing) (k : Kind) :
    (s.admitOrWait m q r k).masterOut = s.masterOut := by
  simp only [State.admitOrWait]; repeat (first | rfl | split | simp)
@[simp] theorem State.admitOrWait_targetOut (s : State) (m : Master) (q : Request) (r : Routing) (k : Kind) :
    (s.admitOrWait m q r k).targetOut = s.targetOut := by
  simp only [State.admitOrWait]; repeat (first | rfl | split | simp)
@[simp] theorem State.admitOrWait_choices (s : State) (m : Master) (q : Request) (r : Routing) (k : Kind) :
    (s.admitOrWait m q r k).choices = s.choices := by
  simp only [State.admitOrWait]; repeat (first | rfl | split | simp)
@[simp] theorem State.admitOrWait_pending (s : State) (m : Master) (q : Request) (r : Routing) (k : Kind) :
    (s.admitOrWait m q r k).pending = s.pending := by
  simp only [State.admitOrWait]; repeat (first | rfl | split | simp)

/-! ### routeHead -/
@[simp] theorem State.routeHead_pwronN (s : State) (m : Master) (q : Request) :
    (s.routeHead m q).pwronN = s.pwronN := by
  simp only [State.routeHead]; repeat (first | rfl | split | simp)
@[simp] theorem State.routeHead_straps (s : State) (m : Master) (q : Request) :
    (s.routeHead m q).straps = s.straps := by
  simp only [State.routeHead]; repeat (first | rfl | split | simp)
@[simp] theorem State.routeHead_now (s : State) (m : Master) (q : Request) :
    (s.routeHead m q).now = s.now := by
  simp only [State.routeHead]; repeat (first | rfl | split | simp)
@[simp] theorem State.routeHead_planes (s : State) (m : Master) (q : Request) :
    (s.routeHead m q).planes = s.planes := by
  simp only [State.routeHead]; repeat (first | rfl | split | simp)
@[simp] theorem State.routeHead_generation (s : State) (m : Master) (q : Request) :
    (s.routeHead m q).generation = s.generation := by
  simp only [State.routeHead]; repeat (first | rfl | split | simp)
@[simp] theorem State.routeHead_planeState (s : State) (m : Master) (q : Request) :
    (s.routeHead m q).planeState = s.planeState := by
  simp only [State.routeHead]; repeat (first | rfl | split | simp)
@[simp] theorem State.routeHead_decrements (s : State) (m : Master) (q : Request) :
    (s.routeHead m q).decrements = s.decrements := by
  simp only [State.routeHead]; repeat (first | rfl | split | simp)
@[simp] theorem State.routeHead_flushReports (s : State) (m : Master) (q : Request) :
    (s.routeHead m q).flushReports = s.flushReports := by
  simp only [State.routeHead]; repeat (first | rfl | split | simp)
@[simp] theorem State.routeHead_announcements (s : State) (m : Master) (q : Request) :
    (s.routeHead m q).announcements = s.announcements := by
  simp only [State.routeHead]; repeat (first | rfl | split | simp)
@[simp] theorem State.routeHead_control (s : State) (m : Master) (q : Request) :
    (s.routeHead m q).control = s.control := by
  simp only [State.routeHead]; repeat (first | rfl | split | simp)
@[simp] theorem State.routeHead_targets (s : State) (m : Master) (q : Request) :
    (s.routeHead m q).targets = s.targets := by
  simp only [State.routeHead]; repeat (first | rfl | split | simp)
@[simp] theorem State.routeHead_masterOut (s : State) (m : Master) (q : Request) :
    (s.routeHead m q).masterOut = s.masterOut := by
  simp only [State.routeHead]; repeat (first | rfl | split | simp)
@[simp] theorem State.routeHead_targetOut (s : State) (m : Master) (q : Request) :
    (s.routeHead m q).targetOut = s.targetOut := by
  simp only [State.routeHead]; repeat (first | rfl | split | simp)
@[simp] theorem State.routeHead_choices (s : State) (m : Master) (q : Request) :
    (s.routeHead m q).choices = s.choices := by
  simp only [State.routeHead]; repeat (first | rfl | split | simp)
@[simp] theorem State.routeHead_pending (s : State) (m : Master) (q : Request) :
    (s.routeHead m q).pending = s.pending := by
  simp only [State.routeHead]; repeat (first | rfl | split | simp)

/-! ### attempt -/
@[simp] theorem State.attempt_pwronN (s : State) (m : Master) (q : Request) (r : Routing) (k : Kind) :
    (s.attempt m q r k).pwronN = s.pwronN := by
  simp only [State.attempt]; repeat (first | rfl | split | simp)
@[simp] theorem State.attempt_straps (s : State) (m : Master) (q : Request) (r : Routing) (k : Kind) :
    (s.attempt m q r k).straps = s.straps := by
  simp only [State.attempt]; repeat (first | rfl | split | simp)
@[simp] theorem State.attempt_now (s : State) (m : Master) (q : Request) (r : Routing) (k : Kind) :
    (s.attempt m q r k).now = s.now := by
  simp only [State.attempt]; repeat (first | rfl | split | simp)
@[simp] theorem State.attempt_planes (s : State) (m : Master) (q : Request) (r : Routing) (k : Kind) :
    (s.attempt m q r k).planes = s.planes := by
  simp only [State.attempt]; repeat (first | rfl | split | simp)
@[simp] theorem State.attempt_generation (s : State) (m : Master) (q : Request) (r : Routing) (k : Kind) :
    (s.attempt m q r k).generation = s.generation := by
  simp only [State.attempt]; repeat (first | rfl | split | simp)
@[simp] theorem State.attempt_planeState (s : State) (m : Master) (q : Request) (r : Routing) (k : Kind) :
    (s.attempt m q r k).planeState = s.planeState := by
  simp only [State.attempt]; repeat (first | rfl | split | simp)
@[simp] theorem State.attempt_decrements (s : State) (m : Master) (q : Request) (r : Routing) (k : Kind) :
    (s.attempt m q r k).decrements = s.decrements := by
  simp only [State.attempt]; repeat (first | rfl | split | simp)
@[simp] theorem State.attempt_flushReports (s : State) (m : Master) (q : Request) (r : Routing) (k : Kind) :
    (s.attempt m q r k).flushReports = s.flushReports := by
  simp only [State.attempt]; repeat (first | rfl | split | simp)
@[simp] theorem State.attempt_announcements (s : State) (m : Master) (q : Request) (r : Routing) (k : Kind) :
    (s.attempt m q r k).announcements = s.announcements := by
  simp only [State.attempt]; repeat (first | rfl | split | simp)
@[simp] theorem State.attempt_control (s : State) (m : Master) (q : Request) (r : Routing) (k : Kind) :
    (s.attempt m q r k).control = s.control := by
  simp only [State.attempt]; repeat (first | rfl | split | simp)
@[simp] theorem State.attempt_targets (s : State) (m : Master) (q : Request) (r : Routing) (k : Kind) :
    (s.attempt m q r k).targets = s.targets := by
  simp only [State.attempt]; repeat (first | rfl | split | simp)
@[simp] theorem State.attempt_masterOut (s : State) (m : Master) (q : Request) (r : Routing) (k : Kind) :
    (s.attempt m q r k).masterOut = s.masterOut := by
  simp only [State.attempt]; repeat (first | rfl | split | simp)
@[simp] theorem State.attempt_targetOut (s : State) (m : Master) (q : Request) (r : Routing) (k : Kind) :
    (s.attempt m q r k).targetOut = s.targetOut := by
  simp only [State.attempt]; repeat (first | rfl | split | simp)
@[simp] theorem State.attempt_choices (s : State) (m : Master) (q : Request) (r : Routing) (k : Kind) :
    (s.attempt m q r k).choices = s.choices := by
  simp only [State.attempt]; repeat (first | rfl | split | simp)
@[simp] theorem State.attempt_pending (s : State) (m : Master) (q : Request) (r : Routing) (k : Kind) :
    (s.attempt m q r k).pending = s.pending := by
  simp only [State.attempt]; repeat (first | rfl | split | simp)

/-! ### routeUnrouted -/
@[simp] theorem State.routeUnrouted_pwronN (s : State) (m : Master) :
    (s.routeUnrouted m).pwronN = s.pwronN := by
  simp only [State.routeUnrouted]; repeat (first | rfl | split | simp)
@[simp] theorem State.routeUnrouted_straps (s : State) (m : Master) :
    (s.routeUnrouted m).straps = s.straps := by
  simp only [State.routeUnrouted]; repeat (first | rfl | split | simp)
@[simp] theorem State.routeUnrouted_now (s : State) (m : Master) :
    (s.routeUnrouted m).now = s.now := by
  simp only [State.routeUnrouted]; repeat (first | rfl | split | simp)
@[simp] theorem State.routeUnrouted_planes (s : State) (m : Master) :
    (s.routeUnrouted m).planes = s.planes := by
  simp only [State.routeUnrouted]; repeat (first | rfl | split | simp)
@[simp] theorem State.routeUnrouted_generation (s : State) (m : Master) :
    (s.routeUnrouted m).generation = s.generation := by
  simp only [State.routeUnrouted]; repeat (first | rfl | split | simp)
@[simp] theorem State.routeUnrouted_planeState (s : State) (m : Master) :
    (s.routeUnrouted m).planeState = s.planeState := by
  simp only [State.routeUnrouted]; repeat (first | rfl | split | simp)
@[simp] theorem State.routeUnrouted_decrements (s : State) (m : Master) :
    (s.routeUnrouted m).decrements = s.decrements := by
  simp only [State.routeUnrouted]; repeat (first | rfl | split | simp)
@[simp] theorem State.routeUnrouted_flushReports (s : State) (m : Master) :
    (s.routeUnrouted m).flushReports = s.flushReports := by
  simp only [State.routeUnrouted]; repeat (first | rfl | split | simp)
@[simp] theorem State.routeUnrouted_announcements (s : State) (m : Master) :
    (s.routeUnrouted m).announcements = s.announcements := by
  simp only [State.routeUnrouted]; repeat (first | rfl | split | simp)
@[simp] theorem State.routeUnrouted_control (s : State) (m : Master) :
    (s.routeUnrouted m).control = s.control := by
  simp only [State.routeUnrouted]; repeat (first | rfl | split | simp)
@[simp] theorem State.routeUnrouted_targets (s : State) (m : Master) :
    (s.routeUnrouted m).targets = s.targets := by
  simp only [State.routeUnrouted]; repeat (first | rfl | split | simp)
@[simp] theorem State.routeUnrouted_masterOut (s : State) (m : Master) :
    (s.routeUnrouted m).masterOut = s.masterOut := by
  simp only [State.routeUnrouted]; repeat (first | rfl | split | simp)
@[simp] theorem State.routeUnrouted_targetOut (s : State) (m : Master) :
    (s.routeUnrouted m).targetOut = s.targetOut := by
  simp only [State.routeUnrouted]; repeat (first | rfl | split | simp)
@[simp] theorem State.routeUnrouted_choices (s : State) (m : Master) :
    (s.routeUnrouted m).choices = s.choices := by
  simp only [State.routeUnrouted]; repeat (first | rfl | split | simp)
@[simp] theorem State.routeUnrouted_pending (s : State) (m : Master) :
    (s.routeUnrouted m).pending = s.pending := by
  simp only [State.routeUnrouted]; repeat (first | rfl | split | simp)

/-! ### routeWaiting, resumeHeads -/
@[simp] theorem State.routeWaiting_pwronN (s : State) (l : List Master) :
    (s.routeWaiting l).pwronN = s.pwronN :=
  foldl_keeps (fun s => s.pwronN) State.routeUnrouted_pwronN l s
@[simp] theorem State.resumeHeads_pwronN (s : State) : s.resumeHeads.pwronN = s.pwronN := by
  simp [State.resumeHeads]
@[simp] theorem State.routeWaiting_straps (s : State) (l : List Master) :
    (s.routeWaiting l).straps = s.straps :=
  foldl_keeps (fun s => s.straps) State.routeUnrouted_straps l s
@[simp] theorem State.resumeHeads_straps (s : State) : s.resumeHeads.straps = s.straps := by
  simp [State.resumeHeads]
@[simp] theorem State.routeWaiting_now (s : State) (l : List Master) :
    (s.routeWaiting l).now = s.now :=
  foldl_keeps (fun s => s.now) State.routeUnrouted_now l s
@[simp] theorem State.resumeHeads_now (s : State) : s.resumeHeads.now = s.now := by
  simp [State.resumeHeads]
@[simp] theorem State.routeWaiting_planes (s : State) (l : List Master) :
    (s.routeWaiting l).planes = s.planes :=
  foldl_keeps (fun s => s.planes) State.routeUnrouted_planes l s
@[simp] theorem State.resumeHeads_planes (s : State) : s.resumeHeads.planes = s.planes := by
  simp [State.resumeHeads]
@[simp] theorem State.routeWaiting_generation (s : State) (l : List Master) :
    (s.routeWaiting l).generation = s.generation :=
  foldl_keeps (fun s => s.generation) State.routeUnrouted_generation l s
@[simp] theorem State.resumeHeads_generation (s : State) : s.resumeHeads.generation = s.generation := by
  simp [State.resumeHeads]
@[simp] theorem State.routeWaiting_planeState (s : State) (l : List Master) :
    (s.routeWaiting l).planeState = s.planeState :=
  foldl_keeps (fun s => s.planeState) State.routeUnrouted_planeState l s
@[simp] theorem State.resumeHeads_planeState (s : State) : s.resumeHeads.planeState = s.planeState := by
  simp [State.resumeHeads]
@[simp] theorem State.routeWaiting_decrements (s : State) (l : List Master) :
    (s.routeWaiting l).decrements = s.decrements :=
  foldl_keeps (fun s => s.decrements) State.routeUnrouted_decrements l s
@[simp] theorem State.resumeHeads_decrements (s : State) : s.resumeHeads.decrements = s.decrements := by
  simp [State.resumeHeads]
@[simp] theorem State.routeWaiting_flushReports (s : State) (l : List Master) :
    (s.routeWaiting l).flushReports = s.flushReports :=
  foldl_keeps (fun s => s.flushReports) State.routeUnrouted_flushReports l s
@[simp] theorem State.resumeHeads_flushReports (s : State) : s.resumeHeads.flushReports = s.flushReports := by
  simp [State.resumeHeads]
@[simp] theorem State.routeWaiting_announcements (s : State) (l : List Master) :
    (s.routeWaiting l).announcements = s.announcements :=
  foldl_keeps (fun s => s.announcements) State.routeUnrouted_announcements l s
@[simp] theorem State.resumeHeads_announcements (s : State) : s.resumeHeads.announcements = s.announcements := by
  simp [State.resumeHeads]
@[simp] theorem State.routeWaiting_control (s : State) (l : List Master) :
    (s.routeWaiting l).control = s.control :=
  foldl_keeps (fun s => s.control) State.routeUnrouted_control l s
@[simp] theorem State.resumeHeads_control (s : State) : s.resumeHeads.control = s.control := by
  simp [State.resumeHeads]
@[simp] theorem State.routeWaiting_targets (s : State) (l : List Master) :
    (s.routeWaiting l).targets = s.targets :=
  foldl_keeps (fun s => s.targets) State.routeUnrouted_targets l s
@[simp] theorem State.resumeHeads_targets (s : State) : s.resumeHeads.targets = s.targets := by
  simp [State.resumeHeads]
@[simp] theorem State.routeWaiting_masterOut (s : State) (l : List Master) :
    (s.routeWaiting l).masterOut = s.masterOut :=
  foldl_keeps (fun s => s.masterOut) State.routeUnrouted_masterOut l s
@[simp] theorem State.resumeHeads_masterOut (s : State) : s.resumeHeads.masterOut = s.masterOut := by
  simp [State.resumeHeads]
@[simp] theorem State.routeWaiting_targetOut (s : State) (l : List Master) :
    (s.routeWaiting l).targetOut = s.targetOut :=
  foldl_keeps (fun s => s.targetOut) State.routeUnrouted_targetOut l s
@[simp] theorem State.resumeHeads_targetOut (s : State) : s.resumeHeads.targetOut = s.targetOut := by
  simp [State.resumeHeads]
@[simp] theorem State.routeWaiting_choices (s : State) (l : List Master) :
    (s.routeWaiting l).choices = s.choices :=
  foldl_keeps (fun s => s.choices) State.routeUnrouted_choices l s
@[simp] theorem State.routeWaiting_pending (s : State) (l : List Master) :
    (s.routeWaiting l).pending = s.pending :=
  foldl_keeps (fun s => s.pending) State.routeUnrouted_pending l s
@[simp] theorem State.resumeHeads_pending (s : State) : s.resumeHeads.pending = s.pending := by
  simp [State.resumeHeads]

/-! ### The heads that resume after HOLDING -/

theorem arrange_perm {α : Type} (k : Nat) (l : List α) : (arrange k l).Perm l := by
  induction l generalizing k with
  | nil => exact .nil
  | cons a l ih =>
    refine (List.perm_insertIdx a _ ?_).trans ((ih _).cons a)
    rw [(ih (k / (l.length + 1))).length_eq]
    exact Nat.lt_succ_iff.mp (Nat.mod_lt _ (Nat.succ_pos _))

/-- The heads resume in some order of the four masters; which one is a free value (log 26). -/
theorem State.resumeHeads_eq (s : State) : ∃ order, order.Perm allMasters ∧
    s.resumeHeads = ({ s with choices := s.choices + 1 }).routeWaiting order :=
  ⟨_, arrange_perm _ _, rfl⟩

/-- A law that routing one head keeps is kept when the heads resume. -/
theorem State.resumeHeads_keeps (P : State → Prop) (hc : ∀ s n, P s → P { s with choices := n })
    (h : ∀ s m, P s → P (s.routeUnrouted m)) (s : State) (hs : P s) : P s.resumeHeads :=
  foldl_keeps_law P h _ _ (hc s _ hs)

/-- Routing the waiting heads changes no head that has left UNROUTED, and with no UNROUTED head nothing. -/
theorem State.routeWaiting_of_none (s : State) (l : List Master)
    (h : ∀ m ∈ l, s.headRequest m = none ∨ (s.port m).ingress.headPhase ≠ .unrouted) :
    s.routeWaiting l = s := by
  have key : ∀ m ∈ l, s.routeUnrouted m = s := by
    intro m hm
    rcases h m hm with h | h
    · simp [State.routeUnrouted, h]
    · unfold State.routeUnrouted
      split
      · next hp => exact absurd hp h
      · rfl
  clear h
  induction l with
  | nil => rfl
  | cons m l ih =>
    rw [State.routeWaiting, List.foldl_cons, key m (by simp)]
    exact ih fun a ha => key a (by simp [ha])

end Sys2Proof.Machine
end

