-- ==== Sys2Proof/Laws/Leave.lean ====
section
/-! SUPPORT. A target port that leaves UP: its entries, lanes, blocks, counts, responses and notices. -/

namespace Sys2Proof.Machine

/-! ### What an event keeps of a port -/

/-- Between `p` and `q` nothing was lost of a port but the slots of the ORT entries in `l`: its state and
counts and its notices stand, its responses stay, and the other slots promised to entries stay RESERVED. -/
structure MasterPort.Keeps (l : List OrtIndex) (p q : MasterPort) : Prop where
  state : q.state = p.state
  faults : q.faults = p.faults
  advertised : q.resp.advertised = p.resp.advertised
  credits : q.resp.credits = p.resp.credits
  notices : q.resp.notices = p.resp.notices
  filled : ∀ x, x ∈ p.resp.filled → x ∈ q.resp.filled
  slots : ∀ j, j ∉ l → .ort j ∈ p.resp.reserved → .ort j ∈ q.resp.reserved

theorem MasterPort.Keeps.refl (l : List OrtIndex) (p : MasterPort) : p.Keeps l p :=
  ⟨rfl, rfl, rfl, rfl, rfl, fun _ h => h, fun _ _ h => h⟩

theorem MasterPort.Keeps.trans {l : List OrtIndex} {p q r : MasterPort} (h : p.Keeps l q)
    (k : q.Keeps l r) : p.Keeps l r :=
  ⟨k.state.trans h.state, k.faults.trans h.faults, k.advertised.trans h.advertised,
    k.credits.trans h.credits, k.notices.trans h.notices, fun x hx => k.filled x (h.filled x hx),
    fun j hj hx => k.slots j hj (h.slots j hj hx)⟩

theorem MasterPort.Keeps.mono {l k : List OrtIndex} {p q : MasterPort} (h : p.Keeps l q)
    (hl : ∀ j, j ∈ l → j ∈ k) : p.Keeps k q :=
  ⟨h.state, h.faults, h.advertised, h.credits, h.notices, h.filled,
    fun j hj => h.slots j (fun e => hj (hl j e))⟩

/-- Every port keeps what `MasterPort.Keeps` says. -/
def State.Keeps (l : List OrtIndex) (s t : State) : Prop := ∀ m, (s.port m).Keeps l (t.port m)

theorem State.Keeps.refl (l : List OrtIndex) (s : State) : s.Keeps l s := fun _ => .refl _ _

theorem State.Keeps.trans {l : List OrtIndex} {s t u : State} (h : s.Keeps l t) (k : t.Keeps l u) :
    s.Keeps l u := fun m => (h m).trans (k m)

theorem State.Keeps.modPort {l : List OrtIndex} {s : State} {m : Master} {f : MasterPort → MasterPort}
    (h : (s.port m).Keeps l (f (s.port m))) : s.Keeps l (s.modPort m f) := by
  intro a
  rw [State.port_modPort]
  split
  · next e => rw [e]; exact h
  · exact .refl _ _

/-- A fill of a slot that no other entry holds. -/
theorem State.Keeps.fill {l : List OrtIndex} (s : State) (m : Master) (h : SlotHolder) (x : Response)
    (hl : ∀ j, j ∉ l → SlotHolder.ort j ≠ h) : s.Keeps l (s.fill m h x) := by
  refine State.Keeps.modPort (f := fun p => { p with resp := p.resp.fill h x }) ?_
  simp only [ResponseUnit.fill]
  split
  · exact ⟨rfl, rfl, rfl, rfl, rfl, fun x hx => List.mem_append_left _ hx,
      fun j hj hm => (List.mem_erase_of_ne (hl j hj)).mpr hm⟩
  · exact .refl _ _

theorem State.Keeps.setFence {l : List OrtIndex} (s : State) (m : Master) (f : FenceTracker) :
    s.Keeps l (s.setFence m f) :=
  State.Keeps.modPort ⟨rfl, rfl, rfl, rfl, rfl, fun _ h => h, fun _ _ h => h⟩

theorem State.Keeps.modIngress {l : List OrtIndex} (s : State) (m : Master) (f : Ingress → Ingress) :
    s.Keeps l (s.modIngress m f) :=
  State.Keeps.modPort ⟨rfl, rfl, rfl, rfl, rfl, fun _ h => h, fun _ _ h => h⟩

theorem State.Keeps.dataLeaves {l : List OrtIndex} (s : State) (m : Master) :
    s.Keeps l (s.dataLeaves m) := by
  refine (State.Keeps.modIngress s m Ingress.dataLeaves).trans ?_
  rcases State.routeNewHead_cases (s.modIngress m Ingress.dataLeaves) m with ⟨_, e⟩ | ⟨q, _, e⟩
  · rw [State.dataLeaves, e]; exact .refl _ _
  · rw [State.dataLeaves, e]; exact .modIngress _ _ _

theorem State.Keeps.passHead {l : List OrtIndex} (s : State) (m : Master) :
    s.Keeps l (s.modResp m fun r => r.pass .head .fence) := by
  refine State.Keeps.modPort (f := fun p => { p with resp := p.resp.pass .head .fence }) ?_
  simp only [ResponseUnit.pass]
  split
  · refine ⟨rfl, rfl, rfl, rfl, rfl, fun _ h => h, fun j _ hm => ?_⟩
    exact List.mem_cons_of_mem _ ((List.mem_erase_of_ne (by simp)).mpr hm)
  · exact .refl _ _

theorem State.Keeps.finishFence {l : List OrtIndex} (s : State) (m : Master) (f : Fence) :
    s.Keeps l (s.finishFence m f) :=
  (State.Keeps.fill s m .fence _ (by simp)).trans (.setFence _ _ _)

theorem State.Keeps.takeFence {l : List OrtIndex} (s : State) (m : Master) (tag : Tag) :
    s.Keeps l (s.takeFence m tag) := by
  have h : ∀ f : FenceTracker, s.Keeps l ((s.modResp m fun r => r.pass .head .fence).setFence m f) :=
    fun f => (State.Keeps.passHead s m).trans (.setFence _ _ _)
  refine State.Keeps.trans ?_ (.dataLeaves _ _)
  split
  · exact (h _).trans (.finishFence _ _ _)
  · exact h _

theorem State.Keeps.takeReadyFence {l : List OrtIndex} (s : State) (m : Master) :
    s.Keeps l (s.takeReadyFence m) := by
  simp only [State.takeReadyFence]
  split
  · exact .takeFence _ _ _
  · exact .refl _ _

theorem State.Keeps.completeFence {l : List OrtIndex} (s : State) (m : Master) (f : Fence) :
    s.Keeps l (s.completeFence m f) :=
  (State.Keeps.finishFence s m f).trans (.takeReadyFence _ _)

theorem State.Keeps.fenceReport {l : List OrtIndex} (s : State) (m : Master) (i : OrtIndex)
    (failed : Bool) : s.Keeps l (s.fenceReport m i failed) := by
  simp only [State.fenceReport]
  split
  · exact .setFence _ _ _
  · split
    · split
      · exact (State.Keeps.setFence s m _).trans (.completeFence _ _ _)
      · exact .setFence _ _ _
    · exact .setFence _ _ _

/-! ### Notices beside what is kept -/

/-- A port after a run of notices. -/
def MasterPort.noted (p : MasterPort) (l : List Notice) : MasterPort :=
  { p with resp := { p.resp with notices := p.noticesAfter l } }

@[simp] theorem MasterPort.noted_nil (p : MasterPort) : p.noted [] = p := by
  simp [MasterPort.noted, MasterPort.noticesAfter]

theorem MasterPort.noted_append (p : MasterPort) (l k : List Notice) :
    (p.noted l).noted k = p.noted (l ++ k) := by
  by_cases h : p.state = .active <;> simp [MasterPort.noted, MasterPort.noticesAfter, h]

theorem MasterPort.notify_eq_noted (p : MasterPort) (n : Notice) : p.notify n = p.noted [n] := by
  by_cases h : p.state = .active <;> simp [MasterPort.noted, MasterPort.noticesAfter, MasterPort.notify, h]

theorem MasterPort.Keeps.noted {l : List OrtIndex} {p q : MasterPort} (h : p.Keeps l q)
    (k : List Notice) : (p.noted k).Keeps l (q.noted k) :=
  ⟨h.state, h.faults, h.advertised, h.credits, by
    simp only [MasterPort.noted, MasterPort.noticesAfter, h.state, h.notices], h.filled, h.slots⟩

/-! ### The loss of a target at one entry -/

/-- The POSTED_FAIL notice that an entry gives its master `m` when target `t` is lost (R90, R95). -/
def lossNotice (t : Target) (m : Master) (u : Option OrtUse) : List Notice :=
  (u.bind fun u =>
    if u.target = t ∧ u.master = m ∧ u.phase.counted ∧ u.kind = .writeP ∧ u.failureReporting then
      some (Notice.postedFail u.tag u.target u.address u.length .targetLost)
    else none).toList

theorem State.lossNotices_eq (s : State) (t : Target) (m : Master) :
    s.lossNotices t m = ortIndices.flatMap fun i => lossNotice t m (s.entry i).use := by
  rw [State.lossNotices, List.filterMap_eq_flatMap_toList]
  refine List.flatMap_congr fun i _ => ?_
  cases (s.entry i).use <;> rfl

theorem State.entry_clearEntry (s : State) (i j : OrtIndex) (u : OrtUse) :
    (s.clearEntry i u).entry j = if j = i then { s.entry i with use := none } else s.entry j := by
  have e : (s.clearEntry i u).ort = (s.setUse i none).ort := rfl
  rw [State.entry_congr e, State.entry_setUse]

/-- The entries after the loss of target `t` at the entry at `i`. -/
theorem State.entry_loseEntry (t : Target) (s : State) (i j : OrtIndex) :
    (State.loseEntry t s i).entry j =
      if j = i ∧ ∃ u, (s.entry i).use = some u ∧ u.target = t then { s.entry i with use := none }
      else s.entry j := by
  unfold State.loseEntry
  cases hu : (s.entry i).use with
  | none => simp
  | some u =>
    simp only [Option.some.injEq, exists_eq_left']
    by_cases ht : u.target = t
    · simp only [ht, if_true, and_true]
      split
      · rw [State.failEntry, State.entry_congr (State.reportFailure_ort _ _ _ _), State.entry_retire]
      · rw [State.entry_clearEntry]
    · simp [ht]

/-- What the loss of target `t` at the entry at `i` adds up to. -/
theorem State.counts_loseEntry (t : Target) (s : State) (i : OrtIndex) :
    (State.loseEntry t s i).freeBlocks = s.freeBlocks +
        ((s.entry i).use.elim 0 fun u => if u.target == t && u.phase.counted then u.blocks else 0) ∧
    (∀ p : PlaneId, (State.loseEntry t s i).decrements[p] = s.decrements[p] +
        ((s.entry i).use.elim 0 fun u =>
          if u.target == t && u.phase.counted && u.plane == p then 1 else 0)) ∧
    (∀ a : Master, (State.loseEntry t s i).held[a] = s.held[a] -
        ((s.entry i).use.elim 0 fun u => if u.target == t && u.master == a then 1 else 0)) := by
  unfold State.loseEntry
  cases hu : (s.entry i).use with
  | none => simp
  | some u =>
    simp only [Option.elim_some]
    by_cases ht : u.target = t
    swap
    · simp [ht]
    simp only [ht, if_true, beq_self_eq_true, Bool.true_and, beq_iff_eq, Bool.and_eq_true]
    by_cases hc : u.phase.counted = true
    · simp only [hc, if_true, true_and, State.failEntry, State.reportFailure_freeBlocks,
        State.reportFailure_decrements, State.reportFailure_held]
      exact ⟨State.release_freeBlocks s i u, State.release_decrements s i u, fun a => by
        have := State.clearEntry_heldAt (s.release i u) i u a
        rw [State.release_held] at this
        exact this⟩
    · simp only [hc, if_false, false_and, Bool.false_eq_true]
      exact ⟨rfl, fun _ => rfl, State.clearEntry_heldAt s i u⟩

/-- What the loss of target `t` at the entry at `i` leaves of the ports: the notice of a posted write,
and the response of an entry that owes one in its slot. -/
theorem State.ports_loseEntry (t : Target) (s : State) (i : OrtIndex) (m : Master) :
    ((s.port m).noted (lossNotice t m (s.entry i).use)).Keeps [i] ((State.loseEntry t s i).port m) := by
  unfold State.loseEntry
  cases hu : (s.entry i).use with
  | none => simp [lossNotice, MasterPort.Keeps.refl]
  | some u =>
    simp only [lossNotice, Option.bind_some]
    by_cases ht : u.target = t
    swap
    · simp [ht, MasterPort.Keeps.refl]
    by_cases hc : u.phase.counted = true
    swap
    · simp only [ht, hc, if_true, if_false, Bool.false_eq_true, false_and, and_false, Option.toList_none,
        MasterPort.noted_nil]
      rw [State.port_congr (State.clearEntry_masters s i u)]
      exact .refl _ _
    simp only [ht, hc, if_true, true_and, State.failEntry, State.reportFailure]
    by_cases hk : u.kind = .writeP
    · by_cases hf : u.failureReporting = true
      · simp only [hk, hf, if_true, and_true]
        refine MasterPort.Keeps.trans ?_ (State.Keeps.fenceReport _ u.master i true m)
        rw [State.notify, State.port_modPort, State.port_congr (State.retire_masters s i u),
          State.port_congr (State.retire_masters s i u)]
        by_cases hm : m = u.master
        · subst hm
          simp only [if_true, Option.toList_some, MasterPort.notify_eq_noted]
          exact .refl _ _
        · simp [hm, Ne.symm hm, MasterPort.Keeps.refl]
      · simp only [hk, hf, if_true, if_false, and_false, Option.toList_none, MasterPort.noted_nil,
          Bool.false_eq_true]
        rw [State.port_congr (State.retire_masters s i u)]
        exact .refl _ _
    · simp only [hk, if_false, false_and, and_false, Option.toList_none, MasterPort.noted_nil]
      split
      · simp only [State.respond]
        split <;>
        · rw [← State.port_congr (State.retire_masters s i u)]
          exact State.Keeps.fill _ _ _ _ (by simp) m
      · rw [State.port_congr (State.retire_masters s i u)]
        exact .refl _ _

/-- The response of an entry that owes one, at the loss of its target (R89, R95). -/
theorem State.responds_loseEntry {t : Target} {s : State} {i : OrtIndex} {u : OrtUse}
    (hu : (s.entry i).use = some u) (ht : u.target = t) (ho : u.responseOwed = true)
    (hk : u.kind ≠ .writeP) (hc : u.phase.counted = true)
    (hr : .ort i ∈ (s.port u.master).resp.reserved) :
    (if u.kind = .read then .readDone u.tag .targetLost [] else .writeDone u.tag .targetLost) ∈
      ((State.loseEntry t s i).port u.master).resp.filled := by
  have hr : .ort i ∈ ((s.retire i u).port u.master).resp.reserved := by
    rw [State.port_congr (State.retire_masters s i u)]; exact hr
  unfold State.loseEntry
  simp only [hu, ht, hc, if_true, State.failEntry, State.reportFailure, hk, if_false, ho]
  rw [State.respond_eq _ _ _ _ _ hr]
  simp [State.answered, State.modResp]

/-! ### The loss of a target -/

/-- What the walk of a lost target over a list of entries leaves. -/
theorem State.ports_loseList (t : Target) (m : Master) (l : List OrtIndex) (hl : l.Nodup) (s : State) :
    ((s.port m).noted (l.flatMap fun i => lossNotice t m (s.entry i).use)).Keeps l
      ((l.foldl (State.loseEntry t) s).port m) := by
  induction l generalizing s with
  | nil => simp [MasterPort.Keeps.refl]
  | cons i l ih =>
    obtain ⟨hi, hl⟩ := List.nodup_cons.mp hl
    have e : (l.flatMap fun j => lossNotice t m ((State.loseEntry t s i).entry j).use) =
        l.flatMap fun j => lossNotice t m (s.entry j).use :=
      List.flatMap_congr fun j hj => by
        rw [State.entry_loseEntry, if_neg]
        exact fun h => hi (h.1 ▸ hj)
    have h2 := ih hl (State.loseEntry t s i)
    rw [e] at h2
    rw [List.flatMap_cons, ← MasterPort.noted_append]
    exact (((State.ports_loseEntry t s i m).noted _).mono (by simp)).trans (h2.mono fun _ => List.mem_cons_of_mem _)

/-- The slots promised to the entries of a list stay RESERVED while the walk has not reached them. -/
def State.Promised (s : State) (l : List OrtIndex) : Prop :=
  ∀ i, i ∈ l → ∀ u, (s.entry i).use = some u → u.responseOwed = true →
    u.kind ≠ .writeP ∧ u.phase.counted = true ∧ .ort i ∈ (s.port u.master).resp.reserved

theorem State.Promised.loseEntry {s : State} {i : OrtIndex} {l : List OrtIndex}
    (h : s.Promised (i :: l)) (hi : i ∉ l) (t : Target) : (State.loseEntry t s i).Promised l := by
  intro j hj u hu ho
  have hne : j ≠ i := fun e => hi (e ▸ hj)
  rw [State.entry_loseEntry, if_neg fun e => hne e.1] at hu
  obtain ⟨h1, h2, h3⟩ := h j (List.mem_cons_of_mem _ hj) u hu ho
  exact ⟨h1, h2, (State.ports_loseEntry t s i u.master).slots j (by simpa using hne) h3⟩

theorem State.responds_loseList (t : Target) (l : List OrtIndex) (hl : l.Nodup) (s : State)
    (hp : s.Promised l) (i : OrtIndex) (hi : i ∈ l) (u : OrtUse) (hu : (s.entry i).use = some u)
    (ht : u.target = t) (ho : u.responseOwed = true) :
    (if u.kind = .read then .readDone u.tag .targetLost [] else .writeDone u.tag .targetLost) ∈
      ((l.foldl (State.loseEntry t) s).port u.master).resp.filled := by
  induction l generalizing s with
  | nil => cases hi
  | cons j l ih =>
    obtain ⟨hj, hl'⟩ := List.nodup_cons.mp hl
    by_cases e : i = j
    · subst e
      obtain ⟨h1, h2, h3⟩ := hp i (by simp) u hu ho
      exact (State.ports_loseList t u.master l hl' _).filled _
        (State.responds_loseEntry hu ht ho h1 h2 h3)
    · refine ih hl' _ (hp.loseEntry hj t) ((List.mem_cons.mp hi).resolve_left e) ?_
      rw [State.entry_loseEntry, if_neg fun h => e h.1]
      exact hu

/-- The walk is the one the statements spell. -/
theorem State.loseList_eq (t : Target) (l : List OrtIndex) (hl : l.Nodup) (s : State)
    (hp : s.Promised l) : l.foldl (State.loseEntry t) s = l.foldl (State.lostAt t) s := by
  induction l generalizing s with
  | nil => rfl
  | cons i l ih =>
    obtain ⟨hi, hl⟩ := List.nodup_cons.mp hl
    have e : State.loseEntry t s i = State.lostAt t s i := by
      unfold State.loseEntry State.lostAt
      cases hu : (s.entry i).use with
      | none => rfl
      | some u =>
        simp only [ne_eq, ite_not]
        refine if_congr Iff.rfl ?_ rfl
        refine if_congr Iff.rfl ?_ rfl
        rw [State.failEntry, State.retire_eq, State.reportFailure_eq]
        intro ho
        exact (hp i (by simp) u hu ho).2.2
    rw [List.foldl_cons, List.foldl_cons, ← e]
    exact ih hl _ (hp.loseEntry hi t)

theorem State.entry_loseTarget (s : State) (t : Target) (j : OrtIndex) :
    (s.loseTarget t).entry j =
      match (s.entry j).use with
      | none => s.entry j
      | some e => if e.target = t then { s.entry j with use := none } else s.entry j := by
  have key : ∀ (l : List OrtIndex), l.Nodup → ∀ s : State, (l.foldl (State.loseEntry t) s).entry j =
      if j ∈ l ∧ ∃ u, (s.entry j).use = some u ∧ u.target = t then { s.entry j with use := none }
      else s.entry j := by
    intro l
    induction l with
    | nil => intro _ s; simp
    | cons i l ih =>
      intro hl s
      obtain ⟨hi, hl⟩ := List.nodup_cons.mp hl
      rw [List.foldl_cons, ih hl, State.entry_loseEntry]
      by_cases e : j = i
      · subst e; simp [hi]
      · simp [e]
  rw [State.loseTarget, key ortIndices (List.nodup_finRange 64)]
  cases hu : (s.entry j).use <;> simp [ortIndices]

/-- The lanes of a lost target are empty, and the others stand. -/
theorem State.lane_loseTarget {s : State} (hs : s.LaneLaw) (t a : Target) (b : Master) :
    (s.loseTarget t).lane a b = if a = t then [] else s.lane a b := by
  have step : ∀ (i : OrtIndex) (s : State), s.LaneLaw → (State.loseEntry t s i).LaneLaw ∧
      (a ≠ t → (State.loseEntry t s i).lane a b = s.lane a b) := by
    intro i s hs
    unfold State.loseEntry
    cases hu : (s.entry i).use with
    | none => exact ⟨hs, fun _ => rfl⟩
    | some u =>
      simp only
      by_cases ht : u.target = t
      swap
      · rw [if_neg ht]; exact ⟨hs, fun _ => rfl⟩
      rw [if_pos ht]
      split
      · have hr := hs.retire hu
        have eo := State.reportFailure_ort (s.retire i u) i u .targetLost
        have el := State.reportFailure_lanes (s.retire i u) i u .targetLost
        refine ⟨?_, fun ha => ?_⟩
        · simp only [State.LaneLaw, State.failEntry, State.entry_congr eo, State.lane_congr el]
          exact hr
        · rw [State.failEntry, State.lane_congr el, State.lane_retire,
            if_neg fun h => ha (h.2.1.trans ht)]
      · next hc =>
        have hl : ∀ x y, (s.clearEntry i u).lane x y = s.lane x y := fun _ _ => rfl
        have hin : u.phase.inLane = false := by
          cases hp : u.phase <;> simp_all [OrtPhase.counted, OrtPhase.inLane]
        refine ⟨⟨?_, ?_, hs.2.2⟩, fun _ => rfl⟩
        · intro j v hv hv2
          rw [State.entry_clearEntry] at hv
          split at hv
          · cases hv
          · exact hs.1 j v hv hv2
        · intro x y j hj
          obtain ⟨v, hv, h1, h2⟩ := hs.2.1 x y j hj
          refine ⟨v, ?_, h1, h2⟩
          rw [State.entry_clearEntry, if_neg]
          · exact hv
          · rintro rfl
            rw [hu] at hv; cases hv
            rw [hin] at h1; cases h1
  have walk : ∀ (l : List OrtIndex) (s : State), s.LaneLaw → (l.foldl (State.loseEntry t) s).LaneLaw ∧
      (a ≠ t → (l.foldl (State.loseEntry t) s).lane a b = s.lane a b) := by
    intro l
    induction l with
    | nil => exact fun s hs => ⟨hs, fun _ => rfl⟩
    | cons i l ih =>
      intro s hs
      obtain ⟨h1, h2⟩ := step i s hs
      obtain ⟨h3, h4⟩ := ih _ h1
      exact ⟨h3, fun ha => (h4 ha).trans (h2 ha)⟩
  obtain ⟨h1, h2⟩ := walk ortIndices s hs
  split
  · next e =>
    rw [e, List.eq_nil_iff_forall_not_mem]
    intro i hi
    obtain ⟨u, hu, _, ht, _⟩ := h1.2.1 t b i hi
    have he := State.entry_loseTarget s t i
    rw [State.loseTarget] at he
    rw [he] at hu
    cases hs : (s.entry i).use with
    | none => rw [hs] at hu; simp [hs] at hu
    | some v =>
      rw [hs] at hu
      by_cases hv : v.target = t
      · simp [hv] at hu
      · simp only [hv, if_false, hs, Option.some.injEq] at hu
        exact hv (hu ▸ ht)
  · next e => exact h2 e

/-! ### Leaving UP -/

/-- One more announcement of port `t` is on its way to every Ingress Unit (R128). -/
theorem State.announcements_announce (s : State) (t : Target) (m : Master) (a : Target) :
    (s.announce t).announcements[m][a] = s.announcements[m][a] + if a = t then 1 else 0 := by
  have e : (s.announce t).announcements[m] = s.announcements[m].set t (s.announcements[m][t] + 1) := by
    simp [State.announce]
  rw [e]
  by_cases h : a = t
  · subst h; simp
  · have h2 : ¬ t.val = a.val := fun x => h (Fin.ext x.symm)
    rw [if_neg h, Fin.getElem_fin, Vector.getElem_set_ne _ _ h2]
    rfl

/-- The state in which the ORT starts its walk: the port DOWN and every master told (R128). -/
def State.toldDown (s : State) (t : Target) (c : DownCause) : State := (s.portDown t).notifyDown t c .up

theorem State.leaveUp_eq (s : State) (t : Target) (c : DownCause) :
    s.leaveUp t c = ((s.toldDown t c).loseTarget t).announce t := rfl

theorem State.port_toldDown (s : State) (t : Target) (c : DownCause) (m : Master) :
    (s.toldDown t c).port m = (s.port m).noted [.targetDown t c .up] := by
  rw [State.toldDown, State.notifyDown, State.notifyAll, State.port_mapPorts,
    ← MasterPort.notify_eq_noted]
  rfl

/-- Everything that leaving UP does (R90, R95, R128). -/
theorem State.leaveUp_leftUp {s : State} (hl : s.LaneLaw) (hp : s.PromiseLaw) (t : Target)
    (c : DownCause) : State.LeftUp s (s.leaveUp t c) t c := by
  have he : ∀ i, (s.toldDown t c).entry i = s.entry i := fun _ => rfl
  have hpr : (s.toldDown t c).Promised ortIndices := by
    intro i _ u hu ho
    rw [he] at hu
    obtain ⟨h1, h2, _, h3⟩ := hp.1 i u hu ho
    refine ⟨h1, h2, ?_⟩
    rw [State.port_toldDown]; exact h3
  have hne : ∀ (s : State) (i j : OrtIndex), j ≠ i → (State.loseEntry t s i).entry j = s.entry j :=
    fun s i j h => by rw [State.entry_loseEntry, if_neg fun e => h e.1]
  have hm : ∀ m, (s.leaveUp t c).port m =
      (ortIndices.foldl (State.loseEntry t) (s.toldDown t c)).port m := fun m => by
    rw [State.leaveUp_eq, State.port_congr (State.announce_masters _ _), State.loseTarget]
  have et : (s.leaveUp t c).targets = (s.portDown t).targets := by simp [State.leaveUp]
  have hports : ∀ m, ((s.port m).noted (.targetDown t c .up :: s.lossNotices t m)).Keeps ortIndices
      ((s.leaveUp t c).port m) := by
    intro m
    have := State.ports_loseList t m ortIndices (List.nodup_finRange 64) (s.toldDown t c)
    simp only [he] at this
    rw [← State.lossNotices_eq, State.port_toldDown, MasterPort.noted_append] at this
    rw [hm]
    exact this
  constructor
  case whole =>
    have ew := State.loseList_eq t ortIndices (List.nodup_finRange 64) _ hpr
    have ea : (ortIndices.foldl (State.lostAt t) (s.toldDown t c)).announcements = s.announcements := by
      rw [← ew]; exact State.loseTarget_announcements (s.toldDown t c) t
    rw [State.leaveUp_eq, State.loseTarget, ew, State.announce, ea]
    rfl
  case record => rw [State.target_congr et]; simp [State.portDown]
  case others => intro a ha; rw [State.target_congr et]; simp [State.portDown, ha]
  case entries =>
    intro i
    rw [State.leaveUp_eq, State.entry_congr (State.announce_ort _ _), State.entry_loseTarget]
    rfl
  case lanes =>
    intro a b
    rw [State.leaveUp_eq, State.lane_congr (State.announce_lanes _ _),
      State.lane_loseTarget (s := s.toldDown t c) hl]
    rfl
  case blocks =>
    have := foldl_adds (g := fun s => s.freeBlocks)
      (φ := fun u => u.elim 0 fun u => if u.target == t && u.phase.counted then u.blocks else 0) hne
      (fun s i => (State.counts_loseEntry t s i).1) (s.toldDown t c)
    have e : (s.toldDown t c).freeBlocks = s.freeBlocks := rfl
    simp only [he, e] at this
    rw [State.blocksWhere_eq, ← this, State.leaveUp_eq, State.announce_freeBlocks, State.loseTarget]
  case decrements =>
    intro p
    have := foldl_adds (g := fun s => s.decrements[p])
      (φ := fun u => u.elim 0 fun u =>
        if u.target == t && u.phase.counted && u.plane == p then 1 else 0) hne
      (fun s i => (State.counts_loseEntry t s i).2.1 p) (s.toldDown t c)
    have e : (s.toldDown t c).decrements = s.decrements := rfl
    simp only [he, e] at this
    rw [State.entriesWhere_eq, ← this, State.leaveUp_eq, State.announce_decrements, State.loseTarget]
  case held =>
    intro m
    have := foldl_lowers (g := fun s => s.held[m])
      (φ := fun u => u.elim 0 fun u => if u.target == t && u.master == m then 1 else 0) hne
      (fun s i => (State.counts_loseEntry t s i).2.2 m) (s.toldDown t c)
    have e : (s.toldDown t c).held = s.held := rfl
    simp only [he, e] at this
    rw [State.entriesWhere_eq, ← this, State.leaveUp_eq, State.announce_held, State.loseTarget]
  case notices => exact fun m => (hports m).notices
  case responses =>
    intro i e hu ht ho
    rw [hm]
    exact State.responds_loseList t ortIndices (List.nodup_finRange 64) _ hpr i
      (List.mem_finRange i) e hu ht ho
  case announced =>
    intro m a
    have ea : ((s.toldDown t c).loseTarget t).announcements = s.announcements :=
      State.loseTarget_announcements (s.toldDown t c) t
    rw [State.leaveUp_eq, State.announcements_announce, ea]
  case ports =>
    intro m
    have := hports m
    exact ⟨this.state, this.faults, this.advertised, this.credits⟩
  case map => simp
  case rest => simp

end Sys2Proof.Machine
end

