-- ==== Sys2Proof/Laws/Links.lean ====
section
/-! SUPPORT. What the shared operations of the links and timers leave unchanged. -/

namespace Sys2Proof.Machine

/-! ### issue -/
@[simp] theorem State.issue_pwronN (s : State) (t : Target) (m : Master) (i : OrtIndex) (run : Nat) (u : OrtUse) :
    (s.issue t m i run u).pwronN = s.pwronN := rfl
@[simp] theorem State.issue_straps (s : State) (t : Target) (m : Master) (i : OrtIndex) (run : Nat) (u : OrtUse) :
    (s.issue t m i run u).straps = s.straps := rfl
@[simp] theorem State.issue_now (s : State) (t : Target) (m : Master) (i : OrtIndex) (run : Nat) (u : OrtUse) :
    (s.issue t m i run u).now = s.now := rfl
@[simp] theorem State.issue_planes (s : State) (t : Target) (m : Master) (i : OrtIndex) (run : Nat) (u : OrtUse) :
    (s.issue t m i run u).planes = s.planes := rfl
@[simp] theorem State.issue_generation (s : State) (t : Target) (m : Master) (i : OrtIndex) (run : Nat) (u : OrtUse) :
    (s.issue t m i run u).generation = s.generation := rfl
@[simp] theorem State.issue_planeState (s : State) (t : Target) (m : Master) (i : OrtIndex) (run : Nat) (u : OrtUse) :
    (s.issue t m i run u).planeState = s.planeState := rfl
@[simp] theorem State.issue_refCounts (s : State) (t : Target) (m : Master) (i : OrtIndex) (run : Nat) (u : OrtUse) :
    (s.issue t m i run u).refCounts = s.refCounts := rfl
@[simp] theorem State.issue_decrements (s : State) (t : Target) (m : Master) (i : OrtIndex) (run : Nat) (u : OrtUse) :
    (s.issue t m i run u).decrements = s.decrements := rfl
@[simp] theorem State.issue_flushReports (s : State) (t : Target) (m : Master) (i : OrtIndex) (run : Nat) (u : OrtUse) :
    (s.issue t m i run u).flushReports = s.flushReports := rfl
@[simp] theorem State.issue_announcements (s : State) (t : Target) (m : Master) (i : OrtIndex) (run : Nat) (u : OrtUse) :
    (s.issue t m i run u).announcements = s.announcements := rfl
@[simp] theorem State.issue_masters (s : State) (t : Target) (m : Master) (i : OrtIndex) (run : Nat) (u : OrtUse) :
    (s.issue t m i run u).masters = s.masters := rfl
@[simp] theorem State.issue_control (s : State) (t : Target) (m : Master) (i : OrtIndex) (run : Nat) (u : OrtUse) :
    (s.issue t m i run u).control = s.control := rfl
@[simp] theorem State.issue_held (s : State) (t : Target) (m : Master) (i : OrtIndex) (run : Nat) (u : OrtUse) :
    (s.issue t m i run u).held = s.held := rfl
@[simp] theorem State.issue_freeBlocks (s : State) (t : Target) (m : Master) (i : OrtIndex) (run : Nat) (u : OrtUse) :
    (s.issue t m i run u).freeBlocks = s.freeBlocks := rfl
@[simp] theorem State.issue_masterOut (s : State) (t : Target) (m : Master) (i : OrtIndex) (run : Nat) (u : OrtUse) :
    (s.issue t m i run u).masterOut = s.masterOut := rfl
@[simp] theorem State.issue_choices (s : State) (t : Target) (m : Master) (i : OrtIndex) (run : Nat) (u : OrtUse) :
    (s.issue t m i run u).choices = s.choices := rfl
@[simp] theorem State.issue_pending (s : State) (t : Target) (m : Master) (i : OrtIndex) (run : Nat) (u : OrtUse) :
    (s.issue t m i run u).pending = s.pending := rfl

/-! ### complete -/
@[simp] theorem State.complete_pwronN (s : State) (i : OrtIndex) (u : OrtUse) (st : Byte) (d : List Byte) :
    (s.complete i u st d).pwronN = s.pwronN := by
  simp only [State.complete]; repeat (first | rfl | split | simp)
@[simp] theorem State.complete_straps (s : State) (i : OrtIndex) (u : OrtUse) (st : Byte) (d : List Byte) :
    (s.complete i u st d).straps = s.straps := by
  simp only [State.complete]; repeat (first | rfl | split | simp)
@[simp] theorem State.complete_now (s : State) (i : OrtIndex) (u : OrtUse) (st : Byte) (d : List Byte) :
    (s.complete i u st d).now = s.now := by
  simp only [State.complete]; repeat (first | rfl | split | simp)
@[simp] theorem State.complete_planes (s : State) (i : OrtIndex) (u : OrtUse) (st : Byte) (d : List Byte) :
    (s.complete i u st d).planes = s.planes := by
  simp only [State.complete]; repeat (first | rfl | split | simp)
@[simp] theorem State.complete_generation (s : State) (i : OrtIndex) (u : OrtUse) (st : Byte) (d : List Byte) :
    (s.complete i u st d).generation = s.generation := by
  simp only [State.complete]; repeat (first | rfl | split | simp)
@[simp] theorem State.complete_planeState (s : State) (i : OrtIndex) (u : OrtUse) (st : Byte) (d : List Byte) :
    (s.complete i u st d).planeState = s.planeState := by
  simp only [State.complete]; repeat (first | rfl | split | simp)
@[simp] theorem State.complete_refCounts (s : State) (i : OrtIndex) (u : OrtUse) (st : Byte) (d : List Byte) :
    (s.complete i u st d).refCounts = s.refCounts := by
  simp only [State.complete]; repeat (first | rfl | split | simp)
@[simp] theorem State.complete_flushReports (s : State) (i : OrtIndex) (u : OrtUse) (st : Byte) (d : List Byte) :
    (s.complete i u st d).flushReports = s.flushReports := by
  simp only [State.complete]; repeat (first | rfl | split | simp)
@[simp] theorem State.complete_announcements (s : State) (i : OrtIndex) (u : OrtUse) (st : Byte) (d : List Byte) :
    (s.complete i u st d).announcements = s.announcements := by
  simp only [State.complete]; repeat (first | rfl | split | simp)
@[simp] theorem State.complete_control (s : State) (i : OrtIndex) (u : OrtUse) (st : Byte) (d : List Byte) :
    (s.complete i u st d).control = s.control := by
  simp only [State.complete]; repeat (first | rfl | split | simp)
@[simp] theorem State.complete_targets (s : State) (i : OrtIndex) (u : OrtUse) (st : Byte) (d : List Byte) :
    (s.complete i u st d).targets = s.targets := by
  simp only [State.complete]; repeat (first | rfl | split | simp)
@[simp] theorem State.complete_masterOut (s : State) (i : OrtIndex) (u : OrtUse) (st : Byte) (d : List Byte) :
    (s.complete i u st d).masterOut = s.masterOut := by
  simp only [State.complete]; repeat (first | rfl | split | simp)
@[simp] theorem State.complete_targetOut (s : State) (i : OrtIndex) (u : OrtUse) (st : Byte) (d : List Byte) :
    (s.complete i u st d).targetOut = s.targetOut := by
  simp only [State.complete]; repeat (first | rfl | split | simp)
@[simp] theorem State.complete_choices (s : State) (i : OrtIndex) (u : OrtUse) (st : Byte) (d : List Byte) :
    (s.complete i u st d).choices = s.choices := by
  simp only [State.complete]; repeat (first | rfl | split | simp)
@[simp] theorem State.complete_pending (s : State) (i : OrtIndex) (u : OrtUse) (st : Byte) (d : List Byte) :
    (s.complete i u st d).pending = s.pending := by
  simp only [State.complete]; repeat (first | rfl | split | simp)

/-! ### retry -/
@[simp] theorem State.retry_pwronN (s : State) (i : OrtIndex) (u : OrtUse) :
    (s.retry i u).pwronN = s.pwronN := by
  simp only [State.retry]; repeat (first | rfl | split | simp)
@[simp] theorem State.retry_straps (s : State) (i : OrtIndex) (u : OrtUse) :
    (s.retry i u).straps = s.straps := by
  simp only [State.retry]; repeat (first | rfl | split | simp)
@[simp] theorem State.retry_now (s : State) (i : OrtIndex) (u : OrtUse) :
    (s.retry i u).now = s.now := by
  simp only [State.retry]; repeat (first | rfl | split | simp)
@[simp] theorem State.retry_planes (s : State) (i : OrtIndex) (u : OrtUse) :
    (s.retry i u).planes = s.planes := by
  simp only [State.retry]; repeat (first | rfl | split | simp)
@[simp] theorem State.retry_generation (s : State) (i : OrtIndex) (u : OrtUse) :
    (s.retry i u).generation = s.generation := by
  simp only [State.retry]; repeat (first | rfl | split | simp)
@[simp] theorem State.retry_planeState (s : State) (i : OrtIndex) (u : OrtUse) :
    (s.retry i u).planeState = s.planeState := by
  simp only [State.retry]; repeat (first | rfl | split | simp)
@[simp] theorem State.retry_refCounts (s : State) (i : OrtIndex) (u : OrtUse) :
    (s.retry i u).refCounts = s.refCounts := by
  simp only [State.retry]; repeat (first | rfl | split | simp)
@[simp] theorem State.retry_flushReports (s : State) (i : OrtIndex) (u : OrtUse) :
    (s.retry i u).flushReports = s.flushReports := by
  simp only [State.retry]; repeat (first | rfl | split | simp)
@[simp] theorem State.retry_announcements (s : State) (i : OrtIndex) (u : OrtUse) :
    (s.retry i u).announcements = s.announcements := by
  simp only [State.retry]; repeat (first | rfl | split | simp)
@[simp] theorem State.retry_control (s : State) (i : OrtIndex) (u : OrtUse) :
    (s.retry i u).control = s.control := by
  simp only [State.retry]; repeat (first | rfl | split | simp)
@[simp] theorem State.retry_targets (s : State) (i : OrtIndex) (u : OrtUse) :
    (s.retry i u).targets = s.targets := by
  simp only [State.retry]; repeat (first | rfl | split | simp)
@[simp] theorem State.retry_masterOut (s : State) (i : OrtIndex) (u : OrtUse) :
    (s.retry i u).masterOut = s.masterOut := by
  simp only [State.retry]; repeat (first | rfl | split | simp)
@[simp] theorem State.retry_targetOut (s : State) (i : OrtIndex) (u : OrtUse) :
    (s.retry i u).targetOut = s.targetOut := by
  simp only [State.retry]; repeat (first | rfl | split | simp)
@[simp] theorem State.retry_choices (s : State) (i : OrtIndex) (u : OrtUse) :
    (s.retry i u).choices = s.choices := by
  simp only [State.retry]; repeat (first | rfl | split | simp)
@[simp] theorem State.retry_pending (s : State) (i : OrtIndex) (u : OrtUse) :
    (s.retry i u).pending = s.pending := by
  simp only [State.retry]; repeat (first | rfl | split | simp)

/-! ### malformedTarget -/
@[simp] theorem State.malformedTarget_pwronN (s : State) (t : Target) (f : List Byte) :
    (s.malformedTarget t f).pwronN = s.pwronN := by
  simp only [State.malformedTarget]; repeat (first | rfl | split | simp)
@[simp] theorem State.malformedTarget_straps (s : State) (t : Target) (f : List Byte) :
    (s.malformedTarget t f).straps = s.straps := by
  simp only [State.malformedTarget]; repeat (first | rfl | split | simp)
@[simp] theorem State.malformedTarget_now (s : State) (t : Target) (f : List Byte) :
    (s.malformedTarget t f).now = s.now := by
  simp only [State.malformedTarget]; repeat (first | rfl | split | simp)
@[simp] theorem State.malformedTarget_planes (s : State) (t : Target) (f : List Byte) :
    (s.malformedTarget t f).planes = s.planes := by
  simp only [State.malformedTarget]; repeat (first | rfl | split | simp)
@[simp] theorem State.malformedTarget_generation (s : State) (t : Target) (f : List Byte) :
    (s.malformedTarget t f).generation = s.generation := by
  simp only [State.malformedTarget]; repeat (first | rfl | split | simp)
@[simp] theorem State.malformedTarget_planeState (s : State) (t : Target) (f : List Byte) :
    (s.malformedTarget t f).planeState = s.planeState := by
  simp only [State.malformedTarget]; repeat (first | rfl | split | simp)
@[simp] theorem State.malformedTarget_refCounts (s : State) (t : Target) (f : List Byte) :
    (s.malformedTarget t f).refCounts = s.refCounts := by
  simp only [State.malformedTarget]; repeat (first | rfl | split | simp)
@[simp] theorem State.malformedTarget_decrements (s : State) (t : Target) (f : List Byte) :
    (s.malformedTarget t f).decrements = s.decrements := by
  simp only [State.malformedTarget]; repeat (first | rfl | split | simp)
@[simp] theorem State.malformedTarget_flushReports (s : State) (t : Target) (f : List Byte) :
    (s.malformedTarget t f).flushReports = s.flushReports := by
  simp only [State.malformedTarget]; repeat (first | rfl | split | simp)
@[simp] theorem State.malformedTarget_announcements (s : State) (t : Target) (f : List Byte) :
    (s.malformedTarget t f).announcements = s.announcements := by
  simp only [State.malformedTarget]; repeat (first | rfl | split | simp)
@[simp] theorem State.malformedTarget_masters (s : State) (t : Target) (f : List Byte) :
    (s.malformedTarget t f).masters = s.masters := by
  simp only [State.malformedTarget]; repeat (first | rfl | split | simp)
@[simp] theorem State.malformedTarget_control (s : State) (t : Target) (f : List Byte) :
    (s.malformedTarget t f).control = s.control := by
  simp only [State.malformedTarget]; repeat (first | rfl | split | simp)
@[simp] theorem State.malformedTarget_ort (s : State) (t : Target) (f : List Byte) :
    (s.malformedTarget t f).ort = s.ort := by
  simp only [State.malformedTarget]; repeat (first | rfl | split | simp)
@[simp] theorem State.malformedTarget_held (s : State) (t : Target) (f : List Byte) :
    (s.malformedTarget t f).held = s.held := by
  simp only [State.malformedTarget]; repeat (first | rfl | split | simp)
@[simp] theorem State.malformedTarget_freeBlocks (s : State) (t : Target) (f : List Byte) :
    (s.malformedTarget t f).freeBlocks = s.freeBlocks := by
  simp only [State.malformedTarget]; repeat (first | rfl | split | simp)
@[simp] theorem State.malformedTarget_lanes (s : State) (t : Target) (f : List Byte) :
    (s.malformedTarget t f).lanes = s.lanes := by
  simp only [State.malformedTarget]; repeat (first | rfl | split | simp)
@[simp] theorem State.malformedTarget_masterOut (s : State) (t : Target) (f : List Byte) :
    (s.malformedTarget t f).masterOut = s.masterOut := by
  simp only [State.malformedTarget]; repeat (first | rfl | split | simp)
@[simp] theorem State.malformedTarget_targetOut (s : State) (t : Target) (f : List Byte) :
    (s.malformedTarget t f).targetOut = s.targetOut := by
  simp only [State.malformedTarget]; repeat (first | rfl | split | simp)
@[simp] theorem State.malformedTarget_choices (s : State) (t : Target) (f : List Byte) :
    (s.malformedTarget t f).choices = s.choices := by
  simp only [State.malformedTarget]; repeat (first | rfl | split | simp)
@[simp] theorem State.malformedTarget_pending (s : State) (t : Target) (f : List Byte) :
    (s.malformedTarget t f).pending = s.pending := by
  simp only [State.malformedTarget]; repeat (first | rfl | split | simp)

/-! ### expire -/
@[simp] theorem State.expire_pwronN (s : State) (i : OrtIndex) (u : OrtUse) :
    (s.expire i u).pwronN = s.pwronN := by
  simp only [State.expire]; repeat (first | rfl | split | simp)
@[simp] theorem State.expire_straps (s : State) (i : OrtIndex) (u : OrtUse) :
    (s.expire i u).straps = s.straps := by
  simp only [State.expire]; repeat (first | rfl | split | simp)
@[simp] theorem State.expire_now (s : State) (i : OrtIndex) (u : OrtUse) :
    (s.expire i u).now = s.now := by
  simp only [State.expire]; repeat (first | rfl | split | simp)
@[simp] theorem State.expire_planes (s : State) (i : OrtIndex) (u : OrtUse) :
    (s.expire i u).planes = s.planes := by
  simp only [State.expire]; repeat (first | rfl | split | simp)
@[simp] theorem State.expire_generation (s : State) (i : OrtIndex) (u : OrtUse) :
    (s.expire i u).generation = s.generation := by
  simp only [State.expire]; repeat (first | rfl | split | simp)
@[simp] theorem State.expire_planeState (s : State) (i : OrtIndex) (u : OrtUse) :
    (s.expire i u).planeState = s.planeState := by
  simp only [State.expire]; repeat (first | rfl | split | simp)
@[simp] theorem State.expire_refCounts (s : State) (i : OrtIndex) (u : OrtUse) :
    (s.expire i u).refCounts = s.refCounts := by
  simp only [State.expire]; repeat (first | rfl | split | simp)
@[simp] theorem State.expire_flushReports (s : State) (i : OrtIndex) (u : OrtUse) :
    (s.expire i u).flushReports = s.flushReports := by
  simp only [State.expire]; repeat (first | rfl | split | simp)
@[simp] theorem State.expire_announcements (s : State) (i : OrtIndex) (u : OrtUse) :
    (s.expire i u).announcements = s.announcements := by
  simp only [State.expire]; repeat (first | rfl | split | simp)
@[simp] theorem State.expire_control (s : State) (i : OrtIndex) (u : OrtUse) :
    (s.expire i u).control = s.control := by
  simp only [State.expire]; repeat (first | rfl | split | simp)
@[simp] theorem State.expire_targets (s : State) (i : OrtIndex) (u : OrtUse) :
    (s.expire i u).targets = s.targets := by
  simp only [State.expire]; repeat (first | rfl | split | simp)
@[simp] theorem State.expire_masterOut (s : State) (i : OrtIndex) (u : OrtUse) :
    (s.expire i u).masterOut = s.masterOut := by
  simp only [State.expire]; repeat (first | rfl | split | simp)
@[simp] theorem State.expire_targetOut (s : State) (i : OrtIndex) (u : OrtUse) :
    (s.expire i u).targetOut = s.targetOut := by
  simp only [State.expire]; repeat (first | rfl | split | simp)
@[simp] theorem State.expire_choices (s : State) (i : OrtIndex) (u : OrtUse) :
    (s.expire i u).choices = s.choices := by
  simp only [State.expire]; repeat (first | rfl | split | simp)
@[simp] theorem State.expire_pending (s : State) (i : OrtIndex) (u : OrtUse) :
    (s.expire i u).pending = s.pending := by
  simp only [State.expire]; repeat (first | rfl | split | simp)

/-! ### arriveData -/
@[simp] theorem State.arriveData_pwronN (s : State) (m : Master) (k : DataPacket) :
    (s.arriveData m k).pwronN = s.pwronN := by
  simp only [State.arriveData]; repeat (first | rfl | split | simp)
@[simp] theorem State.arriveData_straps (s : State) (m : Master) (k : DataPacket) :
    (s.arriveData m k).straps = s.straps := by
  simp only [State.arriveData]; repeat (first | rfl | split | simp)
@[simp] theorem State.arriveData_now (s : State) (m : Master) (k : DataPacket) :
    (s.arriveData m k).now = s.now := by
  simp only [State.arriveData]; repeat (first | rfl | split | simp)
@[simp] theorem State.arriveData_planes (s : State) (m : Master) (k : DataPacket) :
    (s.arriveData m k).planes = s.planes := by
  simp only [State.arriveData]; repeat (first | rfl | split | simp)
@[simp] theorem State.arriveData_generation (s : State) (m : Master) (k : DataPacket) :
    (s.arriveData m k).generation = s.generation := by
  simp only [State.arriveData]; repeat (first | rfl | split | simp)
@[simp] theorem State.arriveData_planeState (s : State) (m : Master) (k : DataPacket) :
    (s.arriveData m k).planeState = s.planeState := by
  simp only [State.arriveData]; repeat (first | rfl | split | simp)
@[simp] theorem State.arriveData_refCounts (s : State) (m : Master) (k : DataPacket) :
    (s.arriveData m k).refCounts = s.refCounts := by
  simp only [State.arriveData]; repeat (first | rfl | split | simp)
@[simp] theorem State.arriveData_decrements (s : State) (m : Master) (k : DataPacket) :
    (s.arriveData m k).decrements = s.decrements := by
  simp only [State.arriveData]; repeat (first | rfl | split | simp)
@[simp] theorem State.arriveData_flushReports (s : State) (m : Master) (k : DataPacket) :
    (s.arriveData m k).flushReports = s.flushReports := by
  simp only [State.arriveData]; repeat (first | rfl | split | simp)
@[simp] theorem State.arriveData_announcements (s : State) (m : Master) (k : DataPacket) :
    (s.arriveData m k).announcements = s.announcements := by
  simp only [State.arriveData]; repeat (first | rfl | split | simp)
@[simp] theorem State.arriveData_control (s : State) (m : Master) (k : DataPacket) :
    (s.arriveData m k).control = s.control := by
  simp only [State.arriveData]; repeat (first | rfl | split | simp)
@[simp] theorem State.arriveData_ort (s : State) (m : Master) (k : DataPacket) :
    (s.arriveData m k).ort = s.ort := by
  simp only [State.arriveData]; repeat (first | rfl | split | simp)
@[simp] theorem State.arriveData_held (s : State) (m : Master) (k : DataPacket) :
    (s.arriveData m k).held = s.held := by
  simp only [State.arriveData]; repeat (first | rfl | split | simp)
@[simp] theorem State.arriveData_freeBlocks (s : State) (m : Master) (k : DataPacket) :
    (s.arriveData m k).freeBlocks = s.freeBlocks := by
  simp only [State.arriveData]; repeat (first | rfl | split | simp)
@[simp] theorem State.arriveData_lanes (s : State) (m : Master) (k : DataPacket) :
    (s.arriveData m k).lanes = s.lanes := by
  simp only [State.arriveData]; repeat (first | rfl | split | simp)
@[simp] theorem State.arriveData_targets (s : State) (m : Master) (k : DataPacket) :
    (s.arriveData m k).targets = s.targets := by
  simp only [State.arriveData]; repeat (first | rfl | split | simp)
@[simp] theorem State.arriveData_masterOut (s : State) (m : Master) (k : DataPacket) :
    (s.arriveData m k).masterOut = s.masterOut := by
  simp only [State.arriveData]; repeat (first | rfl | split | simp)
@[simp] theorem State.arriveData_targetOut (s : State) (m : Master) (k : DataPacket) :
    (s.arriveData m k).targetOut = s.targetOut := by
  simp only [State.arriveData]; repeat (first | rfl | split | simp)
@[simp] theorem State.arriveData_choices (s : State) (m : Master) (k : DataPacket) :
    (s.arriveData m k).choices = s.choices := by
  simp only [State.arriveData]; repeat (first | rfl | split | simp)
@[simp] theorem State.arriveData_pending (s : State) (m : Master) (k : DataPacket) :
    (s.arriveData m k).pending = s.pending := by
  simp only [State.arriveData]; repeat (first | rfl | split | simp)

/-! ### arriveControl -/
@[simp] theorem State.arriveControl_pwronN (s : State) (m : Master) (k : ControlPacket) :
    (s.arriveControl m k).pwronN = s.pwronN := by
  simp only [State.arriveControl]; repeat (first | rfl | split | simp)
@[simp] theorem State.arriveControl_straps (s : State) (m : Master) (k : ControlPacket) :
    (s.arriveControl m k).straps = s.straps := by
  simp only [State.arriveControl]; repeat (first | rfl | split | simp)
@[simp] theorem State.arriveControl_now (s : State) (m : Master) (k : ControlPacket) :
    (s.arriveControl m k).now = s.now := by
  simp only [State.arriveControl]; repeat (first | rfl | split | simp)
@[simp] theorem State.arriveControl_planes (s : State) (m : Master) (k : ControlPacket) :
    (s.arriveControl m k).planes = s.planes := by
  simp only [State.arriveControl]; repeat (first | rfl | split | simp)
@[simp] theorem State.arriveControl_generation (s : State) (m : Master) (k : ControlPacket) :
    (s.arriveControl m k).generation = s.generation := by
  simp only [State.arriveControl]; repeat (first | rfl | split | simp)
@[simp] theorem State.arriveControl_planeState (s : State) (m : Master) (k : ControlPacket) :
    (s.arriveControl m k).planeState = s.planeState := by
  simp only [State.arriveControl]; repeat (first | rfl | split | simp)
@[simp] theorem State.arriveControl_refCounts (s : State) (m : Master) (k : ControlPacket) :
    (s.arriveControl m k).refCounts = s.refCounts := by
  simp only [State.arriveControl]; repeat (first | rfl | split | simp)
@[simp] theorem State.arriveControl_decrements (s : State) (m : Master) (k : ControlPacket) :
    (s.arriveControl m k).decrements = s.decrements := by
  simp only [State.arriveControl]; repeat (first | rfl | split | simp)
@[simp] theorem State.arriveControl_flushReports (s : State) (m : Master) (k : ControlPacket) :
    (s.arriveControl m k).flushReports = s.flushReports := by
  simp only [State.arriveControl]; repeat (first | rfl | split | simp)
@[simp] theorem State.arriveControl_announcements (s : State) (m : Master) (k : ControlPacket) :
    (s.arriveControl m k).announcements = s.announcements := by
  simp only [State.arriveControl]; repeat (first | rfl | split | simp)
@[simp] theorem State.arriveControl_control (s : State) (m : Master) (k : ControlPacket) :
    (s.arriveControl m k).control = s.control := by
  simp only [State.arriveControl]; repeat (first | rfl | split | simp)
@[simp] theorem State.arriveControl_ort (s : State) (m : Master) (k : ControlPacket) :
    (s.arriveControl m k).ort = s.ort := by
  simp only [State.arriveControl]; repeat (first | rfl | split | simp)
@[simp] theorem State.arriveControl_held (s : State) (m : Master) (k : ControlPacket) :
    (s.arriveControl m k).held = s.held := by
  simp only [State.arriveControl]; repeat (first | rfl | split | simp)
@[simp] theorem State.arriveControl_freeBlocks (s : State) (m : Master) (k : ControlPacket) :
    (s.arriveControl m k).freeBlocks = s.freeBlocks := by
  simp only [State.arriveControl]; repeat (first | rfl | split | simp)
@[simp] theorem State.arriveControl_lanes (s : State) (m : Master) (k : ControlPacket) :
    (s.arriveControl m k).lanes = s.lanes := by
  simp only [State.arriveControl]; repeat (first | rfl | split | simp)
@[simp] theorem State.arriveControl_targets (s : State) (m : Master) (k : ControlPacket) :
    (s.arriveControl m k).targets = s.targets := by
  simp only [State.arriveControl]; repeat (first | rfl | split | simp)
@[simp] theorem State.arriveControl_masterOut (s : State) (m : Master) (k : ControlPacket) :
    (s.arriveControl m k).masterOut = s.masterOut := by
  simp only [State.arriveControl]; repeat (first | rfl | split | simp)
@[simp] theorem State.arriveControl_targetOut (s : State) (m : Master) (k : ControlPacket) :
    (s.arriveControl m k).targetOut = s.targetOut := by
  simp only [State.arriveControl]; repeat (first | rfl | split | simp)
@[simp] theorem State.arriveControl_choices (s : State) (m : Master) (k : ControlPacket) :
    (s.arriveControl m k).choices = s.choices := by
  simp only [State.arriveControl]; repeat (first | rfl | split | simp)
@[simp] theorem State.arriveControl_pending (s : State) (m : Master) (k : ControlPacket) :
    (s.arriveControl m k).pending = s.pending := by
  simp only [State.arriveControl]; repeat (first | rfl | split | simp)

/-! ### malformedMaster -/
@[simp] theorem State.malformedMaster_pwronN (s : State) (m : Master) (q : FrameQueue) :
    (s.malformedMaster m q).pwronN = s.pwronN := by
  simp only [State.malformedMaster]; repeat (first | rfl | split | simp)
@[simp] theorem State.malformedMaster_straps (s : State) (m : Master) (q : FrameQueue) :
    (s.malformedMaster m q).straps = s.straps := by
  simp only [State.malformedMaster]; repeat (first | rfl | split | simp)
@[simp] theorem State.malformedMaster_now (s : State) (m : Master) (q : FrameQueue) :
    (s.malformedMaster m q).now = s.now := by
  simp only [State.malformedMaster]; repeat (first | rfl | split | simp)
@[simp] theorem State.malformedMaster_planes (s : State) (m : Master) (q : FrameQueue) :
    (s.malformedMaster m q).planes = s.planes := by
  simp only [State.malformedMaster]; repeat (first | rfl | split | simp)
@[simp] theorem State.malformedMaster_generation (s : State) (m : Master) (q : FrameQueue) :
    (s.malformedMaster m q).generation = s.generation := by
  simp only [State.malformedMaster]; repeat (first | rfl | split | simp)
@[simp] theorem State.malformedMaster_planeState (s : State) (m : Master) (q : FrameQueue) :
    (s.malformedMaster m q).planeState = s.planeState := by
  simp only [State.malformedMaster]; repeat (first | rfl | split | simp)
@[simp] theorem State.malformedMaster_refCounts (s : State) (m : Master) (q : FrameQueue) :
    (s.malformedMaster m q).refCounts = s.refCounts := by
  simp only [State.malformedMaster]; repeat (first | rfl | split | simp)
@[simp] theorem State.malformedMaster_decrements (s : State) (m : Master) (q : FrameQueue) :
    (s.malformedMaster m q).decrements = s.decrements := by
  simp only [State.malformedMaster]; repeat (first | rfl | split | simp)
@[simp] theorem State.malformedMaster_flushReports (s : State) (m : Master) (q : FrameQueue) :
    (s.malformedMaster m q).flushReports = s.flushReports := by
  simp only [State.malformedMaster]; repeat (first | rfl | split | simp)
@[simp] theorem State.malformedMaster_announcements (s : State) (m : Master) (q : FrameQueue) :
    (s.malformedMaster m q).announcements = s.announcements := by
  simp only [State.malformedMaster]; repeat (first | rfl | split | simp)
@[simp] theorem State.malformedMaster_control (s : State) (m : Master) (q : FrameQueue) :
    (s.malformedMaster m q).control = s.control := by
  simp only [State.malformedMaster]; repeat (first | rfl | split | simp)
@[simp] theorem State.malformedMaster_ort (s : State) (m : Master) (q : FrameQueue) :
    (s.malformedMaster m q).ort = s.ort := by
  simp only [State.malformedMaster]; repeat (first | rfl | split | simp)
@[simp] theorem State.malformedMaster_held (s : State) (m : Master) (q : FrameQueue) :
    (s.malformedMaster m q).held = s.held := by
  simp only [State.malformedMaster]; repeat (first | rfl | split | simp)
@[simp] theorem State.malformedMaster_freeBlocks (s : State) (m : Master) (q : FrameQueue) :
    (s.malformedMaster m q).freeBlocks = s.freeBlocks := by
  simp only [State.malformedMaster]; repeat (first | rfl | split | simp)
@[simp] theorem State.malformedMaster_lanes (s : State) (m : Master) (q : FrameQueue) :
    (s.malformedMaster m q).lanes = s.lanes := by
  simp only [State.malformedMaster]; repeat (first | rfl | split | simp)
@[simp] theorem State.malformedMaster_targets (s : State) (m : Master) (q : FrameQueue) :
    (s.malformedMaster m q).targets = s.targets := by
  simp only [State.malformedMaster]; repeat (first | rfl | split | simp)
@[simp] theorem State.malformedMaster_masterOut (s : State) (m : Master) (q : FrameQueue) :
    (s.malformedMaster m q).masterOut = s.masterOut := by
  simp only [State.malformedMaster]; repeat (first | rfl | split | simp)
@[simp] theorem State.malformedMaster_targetOut (s : State) (m : Master) (q : FrameQueue) :
    (s.malformedMaster m q).targetOut = s.targetOut := by
  simp only [State.malformedMaster]; repeat (first | rfl | split | simp)
@[simp] theorem State.malformedMaster_choices (s : State) (m : Master) (q : FrameQueue) :
    (s.malformedMaster m q).choices = s.choices := by
  simp only [State.malformedMaster]; repeat (first | rfl | split | simp)
@[simp] theorem State.malformedMaster_pending (s : State) (m : Master) (q : FrameQueue) :
    (s.malformedMaster m q).pending = s.pending := by
  simp only [State.malformedMaster]; repeat (first | rfl | split | simp)

/-! ### closePort -/
@[simp] theorem State.closePort_pwronN (s : State) (m : Master) :
    (s.closePort m).pwronN = s.pwronN := by
  simp only [State.closePort]; split <;> simp
@[simp] theorem State.closePort_straps (s : State) (m : Master) :
    (s.closePort m).straps = s.straps := by
  simp only [State.closePort]; split <;> simp
@[simp] theorem State.closePort_now (s : State) (m : Master) :
    (s.closePort m).now = s.now := by
  simp only [State.closePort]; split <;> simp
@[simp] theorem State.closePort_planes (s : State) (m : Master) :
    (s.closePort m).planes = s.planes := by
  simp only [State.closePort]; split <;> simp
@[simp] theorem State.closePort_generation (s : State) (m : Master) :
    (s.closePort m).generation = s.generation := by
  simp only [State.closePort]; split <;> simp
@[simp] theorem State.closePort_planeState (s : State) (m : Master) :
    (s.closePort m).planeState = s.planeState := by
  simp only [State.closePort]; split <;> simp
@[simp] theorem State.closePort_refCounts (s : State) (m : Master) :
    (s.closePort m).refCounts = s.refCounts := by
  simp only [State.closePort]; split <;> simp
@[simp] theorem State.closePort_announcements (s : State) (m : Master) :
    (s.closePort m).announcements = s.announcements := by
  simp only [State.closePort]; split <;> simp
@[simp] theorem State.closePort_control (s : State) (m : Master) :
    (s.closePort m).control = s.control := by
  simp only [State.closePort]; split <;> simp
@[simp] theorem State.closePort_targets (s : State) (m : Master) :
    (s.closePort m).targets = s.targets := by
  simp only [State.closePort]; split <;> simp
@[simp] theorem State.closePort_masterOut (s : State) (m : Master) :
    (s.closePort m).masterOut = s.masterOut := by
  simp only [State.closePort]; split <;> simp
@[simp] theorem State.closePort_targetOut (s : State) (m : Master) :
    (s.closePort m).targetOut = s.targetOut := by
  simp only [State.closePort]; split <;> simp
@[simp] theorem State.closePort_choices (s : State) (m : Master) :
    (s.closePort m).choices = s.choices := by
  simp only [State.closePort]; split <;> simp
@[simp] theorem State.closePort_pending (s : State) (m : Master) :
    (s.closePort m).pending = s.pending := by
  simp only [State.closePort]; split <;> simp

end Sys2Proof.Machine
end

