-- ==== Sys2Proof/Laws/Plane.lean ====
section
/-! SUPPORT. What the Plane Controller's and the Control Unit's shared operations leave unchanged. -/

namespace Sys2Proof.Machine

/-- The wrap from 2^32 - 1 to 0 keeps the law of R2: a flip makes the other plane live. -/
theorem livePlane_succ (g : Generation) : livePlane (g + 1) = otherPlane (livePlane g) := by
  have e : (g + 1).toNat % 2 = (g.toNat + 1) % 2 := by
    rw [BitVec.toNat_add]; simp
  simp only [livePlane, e]
  rcases Nat.mod_two_eq_zero_or_one g.toNat with h | h <;> simp [otherPlane, h, Nat.add_mod]

@[simp] theorem otherPlane_otherPlane (p : PlaneId) : otherPlane (otherPlane p) = p := by
  revert p; decide

theorem otherPlane_ne (p : PlaneId) : otherPlane p ≠ p := by
  revert p; decide

/-! ### flip -/
@[simp] theorem State.flip_pwronN (s : State) :
    s.flip.pwronN = s.pwronN := rfl
@[simp] theorem State.flip_straps (s : State) :
    s.flip.straps = s.straps := rfl
@[simp] theorem State.flip_now (s : State) :
    s.flip.now = s.now := rfl
@[simp] theorem State.flip_planes (s : State) :
    s.flip.planes = s.planes := rfl
@[simp] theorem State.flip_planeState (s : State) :
    s.flip.planeState = s.planeState := rfl
@[simp] theorem State.flip_refCounts (s : State) :
    s.flip.refCounts = s.refCounts := rfl
@[simp] theorem State.flip_decrements (s : State) :
    s.flip.decrements = s.decrements := rfl
@[simp] theorem State.flip_flushReports (s : State) :
    s.flip.flushReports = s.flushReports := rfl
@[simp] theorem State.flip_announcements (s : State) :
    s.flip.announcements = s.announcements := rfl
@[simp] theorem State.flip_control (s : State) :
    s.flip.control = s.control := rfl
@[simp] theorem State.flip_ort (s : State) :
    s.flip.ort = s.ort := rfl
@[simp] theorem State.flip_held (s : State) :
    s.flip.held = s.held := rfl
@[simp] theorem State.flip_freeBlocks (s : State) :
    s.flip.freeBlocks = s.freeBlocks := rfl
@[simp] theorem State.flip_lanes (s : State) :
    s.flip.lanes = s.lanes := rfl
@[simp] theorem State.flip_targets (s : State) :
    s.flip.targets = s.targets := rfl
@[simp] theorem State.flip_masterOut (s : State) :
    s.flip.masterOut = s.masterOut := rfl
@[simp] theorem State.flip_targetOut (s : State) :
    s.flip.targetOut = s.targetOut := rfl
@[simp] theorem State.flip_choices (s : State) :
    s.flip.choices = s.choices := rfl
@[simp] theorem State.flip_pending (s : State) :
    s.flip.pending = s.pending := rfl

/-! ### copyLive -/
@[simp] theorem State.copyLive_pwronN (s : State) :
    s.copyLive.pwronN = s.pwronN := rfl
@[simp] theorem State.copyLive_straps (s : State) :
    s.copyLive.straps = s.straps := rfl
@[simp] theorem State.copyLive_now (s : State) :
    s.copyLive.now = s.now := rfl
@[simp] theorem State.copyLive_generation (s : State) :
    s.copyLive.generation = s.generation := rfl
@[simp] theorem State.copyLive_planeState (s : State) :
    s.copyLive.planeState = s.planeState := rfl
@[simp] theorem State.copyLive_refCounts (s : State) :
    s.copyLive.refCounts = s.refCounts := rfl
@[simp] theorem State.copyLive_decrements (s : State) :
    s.copyLive.decrements = s.decrements := rfl
@[simp] theorem State.copyLive_flushReports (s : State) :
    s.copyLive.flushReports = s.flushReports := rfl
@[simp] theorem State.copyLive_announcements (s : State) :
    s.copyLive.announcements = s.announcements := rfl
@[simp] theorem State.copyLive_masters (s : State) :
    s.copyLive.masters = s.masters := rfl
@[simp] theorem State.copyLive_control (s : State) :
    s.copyLive.control = s.control := rfl
@[simp] theorem State.copyLive_ort (s : State) :
    s.copyLive.ort = s.ort := rfl
@[simp] theorem State.copyLive_held (s : State) :
    s.copyLive.held = s.held := rfl
@[simp] theorem State.copyLive_freeBlocks (s : State) :
    s.copyLive.freeBlocks = s.freeBlocks := rfl
@[simp] theorem State.copyLive_lanes (s : State) :
    s.copyLive.lanes = s.lanes := rfl
@[simp] theorem State.copyLive_targets (s : State) :
    s.copyLive.targets = s.targets := rfl
@[simp] theorem State.copyLive_masterOut (s : State) :
    s.copyLive.masterOut = s.masterOut := rfl
@[simp] theorem State.copyLive_targetOut (s : State) :
    s.copyLive.targetOut = s.targetOut := rfl
@[simp] theorem State.copyLive_choices (s : State) :
    s.copyLive.choices = s.choices := rfl
@[simp] theorem State.copyLive_pending (s : State) :
    s.copyLive.pending = s.pending := rfl

/-! ### reconcile -/
@[simp] theorem State.reconcile_pwronN (s : State) :
    s.reconcile.pwronN = s.pwronN := rfl
@[simp] theorem State.reconcile_straps (s : State) :
    s.reconcile.straps = s.straps := rfl
@[simp] theorem State.reconcile_now (s : State) :
    s.reconcile.now = s.now := rfl
@[simp] theorem State.reconcile_generation (s : State) :
    s.reconcile.generation = s.generation := rfl
@[simp] theorem State.reconcile_refCounts (s : State) :
    s.reconcile.refCounts = s.refCounts := rfl
@[simp] theorem State.reconcile_decrements (s : State) :
    s.reconcile.decrements = s.decrements := rfl
@[simp] theorem State.reconcile_flushReports (s : State) :
    s.reconcile.flushReports = s.flushReports := rfl
@[simp] theorem State.reconcile_announcements (s : State) :
    s.reconcile.announcements = s.announcements := rfl
@[simp] theorem State.reconcile_control (s : State) :
    s.reconcile.control = s.control := rfl
@[simp] theorem State.reconcile_ort (s : State) :
    s.reconcile.ort = s.ort := rfl
@[simp] theorem State.reconcile_held (s : State) :
    s.reconcile.held = s.held := rfl
@[simp] theorem State.reconcile_freeBlocks (s : State) :
    s.reconcile.freeBlocks = s.freeBlocks := rfl
@[simp] theorem State.reconcile_lanes (s : State) :
    s.reconcile.lanes = s.lanes := rfl
@[simp] theorem State.reconcile_targets (s : State) :
    s.reconcile.targets = s.targets := rfl
@[simp] theorem State.reconcile_masterOut (s : State) :
    s.reconcile.masterOut = s.masterOut := rfl
@[simp] theorem State.reconcile_targetOut (s : State) :
    s.reconcile.targetOut = s.targetOut := rfl
@[simp] theorem State.reconcile_choices (s : State) :
    s.reconcile.choices = s.choices := rfl
@[simp] theorem State.reconcile_pending (s : State) :
    s.reconcile.pending = s.pending := rfl

/-! ### completeSwitch -/
@[simp] theorem State.completeSwitch_pwronN (s : State) :
    s.completeSwitch.pwronN = s.pwronN := rfl
@[simp] theorem State.completeSwitch_straps (s : State) :
    s.completeSwitch.straps = s.straps := rfl
@[simp] theorem State.completeSwitch_now (s : State) :
    s.completeSwitch.now = s.now := rfl
@[simp] theorem State.completeSwitch_refCounts (s : State) :
    s.completeSwitch.refCounts = s.refCounts := rfl
@[simp] theorem State.completeSwitch_decrements (s : State) :
    s.completeSwitch.decrements = s.decrements := rfl
@[simp] theorem State.completeSwitch_flushReports (s : State) :
    s.completeSwitch.flushReports = s.flushReports := rfl
@[simp] theorem State.completeSwitch_announcements (s : State) :
    s.completeSwitch.announcements = s.announcements := rfl
@[simp] theorem State.completeSwitch_control (s : State) :
    s.completeSwitch.control = s.control := rfl
@[simp] theorem State.completeSwitch_ort (s : State) :
    s.completeSwitch.ort = s.ort := rfl
@[simp] theorem State.completeSwitch_held (s : State) :
    s.completeSwitch.held = s.held := rfl
@[simp] theorem State.completeSwitch_freeBlocks (s : State) :
    s.completeSwitch.freeBlocks = s.freeBlocks := rfl
@[simp] theorem State.completeSwitch_lanes (s : State) :
    s.completeSwitch.lanes = s.lanes := rfl
@[simp] theorem State.completeSwitch_targets (s : State) :
    s.completeSwitch.targets = s.targets := rfl
@[simp] theorem State.completeSwitch_masterOut (s : State) :
    s.completeSwitch.masterOut = s.masterOut := rfl
@[simp] theorem State.completeSwitch_targetOut (s : State) :
    s.completeSwitch.targetOut = s.targetOut := rfl
@[simp] theorem State.completeSwitch_choices (s : State) :
    s.completeSwitch.choices = s.choices := rfl
@[simp] theorem State.completeSwitch_pending (s : State) :
    s.completeSwitch.pending = s.pending := rfl

/-! ### immediateSwitch -/
@[simp] theorem State.immediateSwitch_pwronN (s : State) :
    s.immediateSwitch.pwronN = s.pwronN := by
  simp only [State.immediateSwitch]; repeat (first | rfl | split | simp)
@[simp] theorem State.immediateSwitch_straps (s : State) :
    s.immediateSwitch.straps = s.straps := by
  simp only [State.immediateSwitch]; repeat (first | rfl | split | simp)
@[simp] theorem State.immediateSwitch_now (s : State) :
    s.immediateSwitch.now = s.now := by
  simp only [State.immediateSwitch]; repeat (first | rfl | split | simp)
@[simp] theorem State.immediateSwitch_refCounts (s : State) :
    s.immediateSwitch.refCounts = s.refCounts := by
  simp only [State.immediateSwitch]; repeat (first | rfl | split | simp)
@[simp] theorem State.immediateSwitch_decrements (s : State) :
    s.immediateSwitch.decrements = s.decrements := by
  simp only [State.immediateSwitch]; repeat (first | rfl | split | simp)
@[simp] theorem State.immediateSwitch_flushReports (s : State) :
    s.immediateSwitch.flushReports = s.flushReports := by
  simp only [State.immediateSwitch]; repeat (first | rfl | split | simp)
@[simp] theorem State.immediateSwitch_announcements (s : State) :
    s.immediateSwitch.announcements = s.announcements := by
  simp only [State.immediateSwitch]; repeat (first | rfl | split | simp)
@[simp] theorem State.immediateSwitch_control (s : State) :
    s.immediateSwitch.control = s.control := by
  simp only [State.immediateSwitch]; repeat (first | rfl | split | simp)
@[simp] theorem State.immediateSwitch_ort (s : State) :
    s.immediateSwitch.ort = s.ort := by
  simp only [State.immediateSwitch]; repeat (first | rfl | split | simp)
@[simp] theorem State.immediateSwitch_held (s : State) :
    s.immediateSwitch.held = s.held := by
  simp only [State.immediateSwitch]; repeat (first | rfl | split | simp)
@[simp] theorem State.immediateSwitch_freeBlocks (s : State) :
    s.immediateSwitch.freeBlocks = s.freeBlocks := by
  simp only [State.immediateSwitch]; repeat (first | rfl | split | simp)
@[simp] theorem State.immediateSwitch_lanes (s : State) :
    s.immediateSwitch.lanes = s.lanes := by
  simp only [State.immediateSwitch]; repeat (first | rfl | split | simp)
@[simp] theorem State.immediateSwitch_targets (s : State) :
    s.immediateSwitch.targets = s.targets := by
  simp only [State.immediateSwitch]; repeat (first | rfl | split | simp)
@[simp] theorem State.immediateSwitch_masterOut (s : State) :
    s.immediateSwitch.masterOut = s.masterOut := by
  simp only [State.immediateSwitch]; repeat (first | rfl | split | simp)
@[simp] theorem State.immediateSwitch_targetOut (s : State) :
    s.immediateSwitch.targetOut = s.targetOut := by
  simp only [State.immediateSwitch]; repeat (first | rfl | split | simp)
@[simp] theorem State.immediateSwitch_choices (s : State) :
    s.immediateSwitch.choices = s.choices := by
  simp only [State.immediateSwitch]; repeat (first | rfl | split | simp)
@[simp] theorem State.immediateSwitch_pending (s : State) :
    s.immediateSwitch.pending = s.pending := by
  simp only [State.immediateSwitch]; repeat (first | rfl | split | simp)

/-! ### backToEditing -/
@[simp] theorem State.backToEditing_pwronN (s : State) (h : Master) :
    (s.backToEditing h).pwronN = s.pwronN := by
  simp [State.backToEditing]
@[simp] theorem State.backToEditing_straps (s : State) (h : Master) :
    (s.backToEditing h).straps = s.straps := by
  simp [State.backToEditing]
@[simp] theorem State.backToEditing_now (s : State) (h : Master) :
    (s.backToEditing h).now = s.now := by
  simp [State.backToEditing]
@[simp] theorem State.backToEditing_planes (s : State) (h : Master) :
    (s.backToEditing h).planes = s.planes := by
  simp [State.backToEditing]
@[simp] theorem State.backToEditing_generation (s : State) (h : Master) :
    (s.backToEditing h).generation = s.generation := by
  simp [State.backToEditing]
@[simp] theorem State.backToEditing_decrements (s : State) (h : Master) :
    (s.backToEditing h).decrements = s.decrements := by
  simp [State.backToEditing]
@[simp] theorem State.backToEditing_flushReports (s : State) (h : Master) :
    (s.backToEditing h).flushReports = s.flushReports := by
  simp [State.backToEditing]
@[simp] theorem State.backToEditing_announcements (s : State) (h : Master) :
    (s.backToEditing h).announcements = s.announcements := by
  simp [State.backToEditing]
@[simp] theorem State.backToEditing_control (s : State) (h : Master) :
    (s.backToEditing h).control = s.control := by
  simp [State.backToEditing]
@[simp] theorem State.backToEditing_targets (s : State) (h : Master) :
    (s.backToEditing h).targets = s.targets := by
  simp [State.backToEditing]
@[simp] theorem State.backToEditing_masterOut (s : State) (h : Master) :
    (s.backToEditing h).masterOut = s.masterOut := by
  simp [State.backToEditing]
@[simp] theorem State.backToEditing_targetOut (s : State) (h : Master) :
    (s.backToEditing h).targetOut = s.targetOut := by
  simp [State.backToEditing]
@[simp] theorem State.backToEditing_pending (s : State) (h : Master) :
    (s.backToEditing h).pending = s.pending := by
  simp [State.backToEditing]

/-! ### countZero -/
@[simp] theorem State.countZero_pwronN (s : State) (p : PlaneId) :
    (s.countZero p).pwronN = s.pwronN := by
  simp only [State.countZero]; repeat (first | rfl | split | simp)
@[simp] theorem State.countZero_straps (s : State) (p : PlaneId) :
    (s.countZero p).straps = s.straps := by
  simp only [State.countZero]; repeat (first | rfl | split | simp)
@[simp] theorem State.countZero_now (s : State) (p : PlaneId) :
    (s.countZero p).now = s.now := by
  simp only [State.countZero]; repeat (first | rfl | split | simp)
@[simp] theorem State.countZero_decrements (s : State) (p : PlaneId) :
    (s.countZero p).decrements = s.decrements := by
  simp only [State.countZero]; repeat (first | rfl | split | simp)
@[simp] theorem State.countZero_flushReports (s : State) (p : PlaneId) :
    (s.countZero p).flushReports = s.flushReports := by
  simp only [State.countZero]; repeat (first | rfl | split | simp)
@[simp] theorem State.countZero_announcements (s : State) (p : PlaneId) :
    (s.countZero p).announcements = s.announcements := by
  simp only [State.countZero]; repeat (first | rfl | split | simp)
@[simp] theorem State.countZero_control (s : State) (p : PlaneId) :
    (s.countZero p).control = s.control := by
  simp only [State.countZero]; repeat (first | rfl | split | simp)
@[simp] theorem State.countZero_targets (s : State) (p : PlaneId) :
    (s.countZero p).targets = s.targets := by
  simp only [State.countZero]; repeat (first | rfl | split | simp)
@[simp] theorem State.countZero_masterOut (s : State) (p : PlaneId) :
    (s.countZero p).masterOut = s.masterOut := by
  simp only [State.countZero]; repeat (first | rfl | split | simp)
@[simp] theorem State.countZero_targetOut (s : State) (p : PlaneId) :
    (s.countZero p).targetOut = s.targetOut := by
  simp only [State.countZero]; repeat (first | rfl | split | simp)
@[simp] theorem State.countZero_pending (s : State) (p : PlaneId) :
    (s.countZero p).pending = s.pending := by
  simp only [State.countZero]; repeat (first | rfl | split | simp)

/-! ### takeDecrement -/
@[simp] theorem State.takeDecrement_pwronN (s : State) (p : PlaneId) :
    (s.takeDecrement p).pwronN = s.pwronN := by
  simp only [State.takeDecrement]; repeat (first | rfl | split | simp)
@[simp] theorem State.takeDecrement_straps (s : State) (p : PlaneId) :
    (s.takeDecrement p).straps = s.straps := by
  simp only [State.takeDecrement]; repeat (first | rfl | split | simp)
@[simp] theorem State.takeDecrement_now (s : State) (p : PlaneId) :
    (s.takeDecrement p).now = s.now := by
  simp only [State.takeDecrement]; repeat (first | rfl | split | simp)
@[simp] theorem State.takeDecrement_flushReports (s : State) (p : PlaneId) :
    (s.takeDecrement p).flushReports = s.flushReports := by
  simp only [State.takeDecrement]; repeat (first | rfl | split | simp)
@[simp] theorem State.takeDecrement_announcements (s : State) (p : PlaneId) :
    (s.takeDecrement p).announcements = s.announcements := by
  simp only [State.takeDecrement]; repeat (first | rfl | split | simp)
@[simp] theorem State.takeDecrement_control (s : State) (p : PlaneId) :
    (s.takeDecrement p).control = s.control := by
  simp only [State.takeDecrement]; repeat (first | rfl | split | simp)
@[simp] theorem State.takeDecrement_targets (s : State) (p : PlaneId) :
    (s.takeDecrement p).targets = s.targets := by
  simp only [State.takeDecrement]; repeat (first | rfl | split | simp)
@[simp] theorem State.takeDecrement_masterOut (s : State) (p : PlaneId) :
    (s.takeDecrement p).masterOut = s.masterOut := by
  simp only [State.takeDecrement]; repeat (first | rfl | split | simp)
@[simp] theorem State.takeDecrement_targetOut (s : State) (p : PlaneId) :
    (s.takeDecrement p).targetOut = s.targetOut := by
  simp only [State.takeDecrement]; repeat (first | rfl | split | simp)
@[simp] theorem State.takeDecrement_pending (s : State) (p : PlaneId) :
    (s.takeDecrement p).pending = s.pending := by
  simp only [State.takeDecrement]; repeat (first | rfl | split | simp)

/-! ### takeFlushReport -/
@[simp] theorem State.takeFlushReport_pwronN (s : State) (m : Master) :
    (s.takeFlushReport m).pwronN = s.pwronN := by
  simp only [State.takeFlushReport]; repeat (first | rfl | split | simp)
@[simp] theorem State.takeFlushReport_straps (s : State) (m : Master) :
    (s.takeFlushReport m).straps = s.straps := by
  simp only [State.takeFlushReport]; repeat (first | rfl | split | simp)
@[simp] theorem State.takeFlushReport_now (s : State) (m : Master) :
    (s.takeFlushReport m).now = s.now := by
  simp only [State.takeFlushReport]; repeat (first | rfl | split | simp)
@[simp] theorem State.takeFlushReport_planes (s : State) (m : Master) :
    (s.takeFlushReport m).planes = s.planes := by
  simp only [State.takeFlushReport]; repeat (first | rfl | split | simp)
@[simp] theorem State.takeFlushReport_generation (s : State) (m : Master) :
    (s.takeFlushReport m).generation = s.generation := by
  simp only [State.takeFlushReport]; repeat (first | rfl | split | simp)
@[simp] theorem State.takeFlushReport_decrements (s : State) (m : Master) :
    (s.takeFlushReport m).decrements = s.decrements := by
  simp only [State.takeFlushReport]; repeat (first | rfl | split | simp)
@[simp] theorem State.takeFlushReport_flushReports (s : State) (m : Master) :
    (s.takeFlushReport m).flushReports = s.flushReports := by
  simp only [State.takeFlushReport]; repeat (first | rfl | split | simp)
@[simp] theorem State.takeFlushReport_announcements (s : State) (m : Master) :
    (s.takeFlushReport m).announcements = s.announcements := by
  simp only [State.takeFlushReport]; repeat (first | rfl | split | simp)
@[simp] theorem State.takeFlushReport_control (s : State) (m : Master) :
    (s.takeFlushReport m).control = s.control := by
  simp only [State.takeFlushReport]; repeat (first | rfl | split | simp)
@[simp] theorem State.takeFlushReport_targets (s : State) (m : Master) :
    (s.takeFlushReport m).targets = s.targets := by
  simp only [State.takeFlushReport]; repeat (first | rfl | split | simp)
@[simp] theorem State.takeFlushReport_masterOut (s : State) (m : Master) :
    (s.takeFlushReport m).masterOut = s.masterOut := by
  simp only [State.takeFlushReport]; repeat (first | rfl | split | simp)
@[simp] theorem State.takeFlushReport_targetOut (s : State) (m : Master) :
    (s.takeFlushReport m).targetOut = s.targetOut := by
  simp only [State.takeFlushReport]; repeat (first | rfl | split | simp)
@[simp] theorem State.takeFlushReport_pending (s : State) (m : Master) :
    (s.takeFlushReport m).pending = s.pending := by
  simp only [State.takeFlushReport]; repeat (first | rfl | split | simp)

/-! ### finish -/
@[simp] theorem State.finish_pwronN (s : State) (op : Operation) (c : ResultCode) (r : ResultRecord) :
    (s.finish op c r).pwronN = s.pwronN := rfl
@[simp] theorem State.finish_straps (s : State) (op : Operation) (c : ResultCode) (r : ResultRecord) :
    (s.finish op c r).straps = s.straps := rfl
@[simp] theorem State.finish_now (s : State) (op : Operation) (c : ResultCode) (r : ResultRecord) :
    (s.finish op c r).now = s.now := rfl
@[simp] theorem State.finish_planes (s : State) (op : Operation) (c : ResultCode) (r : ResultRecord) :
    (s.finish op c r).planes = s.planes := rfl
@[simp] theorem State.finish_generation (s : State) (op : Operation) (c : ResultCode) (r : ResultRecord) :
    (s.finish op c r).generation = s.generation := rfl
@[simp] theorem State.finish_planeState (s : State) (op : Operation) (c : ResultCode) (r : ResultRecord) :
    (s.finish op c r).planeState = s.planeState := rfl
@[simp] theorem State.finish_refCounts (s : State) (op : Operation) (c : ResultCode) (r : ResultRecord) :
    (s.finish op c r).refCounts = s.refCounts := rfl
@[simp] theorem State.finish_decrements (s : State) (op : Operation) (c : ResultCode) (r : ResultRecord) :
    (s.finish op c r).decrements = s.decrements := rfl
@[simp] theorem State.finish_flushReports (s : State) (op : Operation) (c : ResultCode) (r : ResultRecord) :
    (s.finish op c r).flushReports = s.flushReports := rfl
@[simp] theorem State.finish_announcements (s : State) (op : Operation) (c : ResultCode) (r : ResultRecord) :
    (s.finish op c r).announcements = s.announcements := rfl
@[simp] theorem State.finish_ort (s : State) (op : Operation) (c : ResultCode) (r : ResultRecord) :
    (s.finish op c r).ort = s.ort := rfl
@[simp] theorem State.finish_held (s : State) (op : Operation) (c : ResultCode) (r : ResultRecord) :
    (s.finish op c r).held = s.held := rfl
@[simp] theorem State.finish_freeBlocks (s : State) (op : Operation) (c : ResultCode) (r : ResultRecord) :
    (s.finish op c r).freeBlocks = s.freeBlocks := rfl
@[simp] theorem State.finish_lanes (s : State) (op : Operation) (c : ResultCode) (r : ResultRecord) :
    (s.finish op c r).lanes = s.lanes := rfl
@[simp] theorem State.finish_targets (s : State) (op : Operation) (c : ResultCode) (r : ResultRecord) :
    (s.finish op c r).targets = s.targets := rfl
@[simp] theorem State.finish_masterOut (s : State) (op : Operation) (c : ResultCode) (r : ResultRecord) :
    (s.finish op c r).masterOut = s.masterOut := rfl
@[simp] theorem State.finish_targetOut (s : State) (op : Operation) (c : ResultCode) (r : ResultRecord) :
    (s.finish op c r).targetOut = s.targetOut := rfl
@[simp] theorem State.finish_choices (s : State) (op : Operation) (c : ResultCode) (r : ResultRecord) :
    (s.finish op c r).choices = s.choices := rfl
@[simp] theorem State.finish_pending (s : State) (op : Operation) (c : ResultCode) (r : ResultRecord) :
    (s.finish op c r).pending = s.pending := rfl

/-! ### renewLease -/
@[simp] theorem State.renewLease_pwronN (s : State) (op : Operation) :
    (s.renewLease op).pwronN = s.pwronN := by
  simp only [State.renewLease]; repeat (first | rfl | split | simp)
@[simp] theorem State.renewLease_straps (s : State) (op : Operation) :
    (s.renewLease op).straps = s.straps := by
  simp only [State.renewLease]; repeat (first | rfl | split | simp)
@[simp] theorem State.renewLease_now (s : State) (op : Operation) :
    (s.renewLease op).now = s.now := by
  simp only [State.renewLease]; repeat (first | rfl | split | simp)
@[simp] theorem State.renewLease_planes (s : State) (op : Operation) :
    (s.renewLease op).planes = s.planes := by
  simp only [State.renewLease]; repeat (first | rfl | split | simp)
@[simp] theorem State.renewLease_generation (s : State) (op : Operation) :
    (s.renewLease op).generation = s.generation := by
  simp only [State.renewLease]; repeat (first | rfl | split | simp)
@[simp] theorem State.renewLease_refCounts (s : State) (op : Operation) :
    (s.renewLease op).refCounts = s.refCounts := by
  simp only [State.renewLease]; repeat (first | rfl | split | simp)
@[simp] theorem State.renewLease_decrements (s : State) (op : Operation) :
    (s.renewLease op).decrements = s.decrements := by
  simp only [State.renewLease]; repeat (first | rfl | split | simp)
@[simp] theorem State.renewLease_flushReports (s : State) (op : Operation) :
    (s.renewLease op).flushReports = s.flushReports := by
  simp only [State.renewLease]; repeat (first | rfl | split | simp)
@[simp] theorem State.renewLease_announcements (s : State) (op : Operation) :
    (s.renewLease op).announcements = s.announcements := by
  simp only [State.renewLease]; repeat (first | rfl | split | simp)
@[simp] theorem State.renewLease_masters (s : State) (op : Operation) :
    (s.renewLease op).masters = s.masters := by
  simp only [State.renewLease]; repeat (first | rfl | split | simp)
@[simp] theorem State.renewLease_control (s : State) (op : Operation) :
    (s.renewLease op).control = s.control := by
  simp only [State.renewLease]; repeat (first | rfl | split | simp)
@[simp] theorem State.renewLease_ort (s : State) (op : Operation) :
    (s.renewLease op).ort = s.ort := by
  simp only [State.renewLease]; repeat (first | rfl | split | simp)
@[simp] theorem State.renewLease_held (s : State) (op : Operation) :
    (s.renewLease op).held = s.held := by
  simp only [State.renewLease]; repeat (first | rfl | split | simp)
@[simp] theorem State.renewLease_freeBlocks (s : State) (op : Operation) :
    (s.renewLease op).freeBlocks = s.freeBlocks := by
  simp only [State.renewLease]; repeat (first | rfl | split | simp)
@[simp] theorem State.renewLease_lanes (s : State) (op : Operation) :
    (s.renewLease op).lanes = s.lanes := by
  simp only [State.renewLease]; repeat (first | rfl | split | simp)
@[simp] theorem State.renewLease_targets (s : State) (op : Operation) :
    (s.renewLease op).targets = s.targets := by
  simp only [State.renewLease]; repeat (first | rfl | split | simp)
@[simp] theorem State.renewLease_masterOut (s : State) (op : Operation) :
    (s.renewLease op).masterOut = s.masterOut := by
  simp only [State.renewLease]; repeat (first | rfl | split | simp)
@[simp] theorem State.renewLease_targetOut (s : State) (op : Operation) :
    (s.renewLease op).targetOut = s.targetOut := by
  simp only [State.renewLease]; repeat (first | rfl | split | simp)
@[simp] theorem State.renewLease_choices (s : State) (op : Operation) :
    (s.renewLease op).choices = s.choices := by
  simp only [State.renewLease]; repeat (first | rfl | split | simp)
@[simp] theorem State.renewLease_pending (s : State) (op : Operation) :
    (s.renewLease op).pending = s.pending := by
  simp only [State.renewLease]; repeat (first | rfl | split | simp)

/-! ### badArgument -/
@[simp] theorem State.badArgument_pwronN (s : State) (op : Operation) (n : Nat) :
    (s.badArgument op n).pwronN = s.pwronN := rfl
@[simp] theorem State.badArgument_straps (s : State) (op : Operation) (n : Nat) :
    (s.badArgument op n).straps = s.straps := rfl
@[simp] theorem State.badArgument_now (s : State) (op : Operation) (n : Nat) :
    (s.badArgument op n).now = s.now := rfl
@[simp] theorem State.badArgument_planes (s : State) (op : Operation) (n : Nat) :
    (s.badArgument op n).planes = s.planes := rfl
@[simp] theorem State.badArgument_generation (s : State) (op : Operation) (n : Nat) :
    (s.badArgument op n).generation = s.generation := rfl
@[simp] theorem State.badArgument_planeState (s : State) (op : Operation) (n : Nat) :
    (s.badArgument op n).planeState = s.planeState := rfl
@[simp] theorem State.badArgument_refCounts (s : State) (op : Operation) (n : Nat) :
    (s.badArgument op n).refCounts = s.refCounts := rfl
@[simp] theorem State.badArgument_decrements (s : State) (op : Operation) (n : Nat) :
    (s.badArgument op n).decrements = s.decrements := rfl
@[simp] theorem State.badArgument_flushReports (s : State) (op : Operation) (n : Nat) :
    (s.badArgument op n).flushReports = s.flushReports := rfl
@[simp] theorem State.badArgument_announcements (s : State) (op : Operation) (n : Nat) :
    (s.badArgument op n).announcements = s.announcements := rfl
@[simp] theorem State.badArgument_ort (s : State) (op : Operation) (n : Nat) :
    (s.badArgument op n).ort = s.ort := rfl
@[simp] theorem State.badArgument_held (s : State) (op : Operation) (n : Nat) :
    (s.badArgument op n).held = s.held := rfl
@[simp] theorem State.badArgument_freeBlocks (s : State) (op : Operation) (n : Nat) :
    (s.badArgument op n).freeBlocks = s.freeBlocks := rfl
@[simp] theorem State.badArgument_lanes (s : State) (op : Operation) (n : Nat) :
    (s.badArgument op n).lanes = s.lanes := rfl
@[simp] theorem State.badArgument_targets (s : State) (op : Operation) (n : Nat) :
    (s.badArgument op n).targets = s.targets := rfl
@[simp] theorem State.badArgument_masterOut (s : State) (op : Operation) (n : Nat) :
    (s.badArgument op n).masterOut = s.masterOut := rfl
@[simp] theorem State.badArgument_targetOut (s : State) (op : Operation) (n : Nat) :
    (s.badArgument op n).targetOut = s.targetOut := rfl
@[simp] theorem State.badArgument_choices (s : State) (op : Operation) (n : Nat) :
    (s.badArgument op n).choices = s.choices := rfl
@[simp] theorem State.badArgument_pending (s : State) (op : Operation) (n : Nat) :
    (s.badArgument op n).pending = s.pending := rfl

/-! ### quiescedSwitch -/
@[simp] theorem State.quiescedSwitch_pwronN (s : State) (h : Master) (l : Nat) :
    (s.quiescedSwitch h l).pwronN = s.pwronN := by
  simp only [State.quiescedSwitch]; repeat (first | rfl | split | simp)
@[simp] theorem State.quiescedSwitch_straps (s : State) (h : Master) (l : Nat) :
    (s.quiescedSwitch h l).straps = s.straps := by
  simp only [State.quiescedSwitch]; repeat (first | rfl | split | simp)
@[simp] theorem State.quiescedSwitch_now (s : State) (h : Master) (l : Nat) :
    (s.quiescedSwitch h l).now = s.now := by
  simp only [State.quiescedSwitch]; repeat (first | rfl | split | simp)
@[simp] theorem State.quiescedSwitch_refCounts (s : State) (h : Master) (l : Nat) :
    (s.quiescedSwitch h l).refCounts = s.refCounts := by
  simp only [State.quiescedSwitch]; repeat (first | rfl | split | simp)
@[simp] theorem State.quiescedSwitch_decrements (s : State) (h : Master) (l : Nat) :
    (s.quiescedSwitch h l).decrements = s.decrements := by
  simp only [State.quiescedSwitch]; repeat (first | rfl | split | simp)
@[simp] theorem State.quiescedSwitch_flushReports (s : State) (h : Master) (l : Nat) :
    (s.quiescedSwitch h l).flushReports = s.flushReports := by
  simp only [State.quiescedSwitch]; repeat (first | rfl | split | simp)
@[simp] theorem State.quiescedSwitch_announcements (s : State) (h : Master) (l : Nat) :
    (s.quiescedSwitch h l).announcements = s.announcements := by
  simp only [State.quiescedSwitch]; repeat (first | rfl | split | simp)
@[simp] theorem State.quiescedSwitch_control (s : State) (h : Master) (l : Nat) :
    (s.quiescedSwitch h l).control = s.control := by
  simp only [State.quiescedSwitch]; repeat (first | rfl | split | simp)
@[simp] theorem State.quiescedSwitch_ort (s : State) (h : Master) (l : Nat) :
    (s.quiescedSwitch h l).ort = s.ort := by
  simp only [State.quiescedSwitch]; repeat (first | rfl | split | simp)
@[simp] theorem State.quiescedSwitch_held (s : State) (h : Master) (l : Nat) :
    (s.quiescedSwitch h l).held = s.held := by
  simp only [State.quiescedSwitch]; repeat (first | rfl | split | simp)
@[simp] theorem State.quiescedSwitch_freeBlocks (s : State) (h : Master) (l : Nat) :
    (s.quiescedSwitch h l).freeBlocks = s.freeBlocks := by
  simp only [State.quiescedSwitch]; repeat (first | rfl | split | simp)
@[simp] theorem State.quiescedSwitch_lanes (s : State) (h : Master) (l : Nat) :
    (s.quiescedSwitch h l).lanes = s.lanes := by
  simp only [State.quiescedSwitch]; repeat (first | rfl | split | simp)
@[simp] theorem State.quiescedSwitch_targets (s : State) (h : Master) (l : Nat) :
    (s.quiescedSwitch h l).targets = s.targets := by
  simp only [State.quiescedSwitch]; repeat (first | rfl | split | simp)
@[simp] theorem State.quiescedSwitch_masterOut (s : State) (h : Master) (l : Nat) :
    (s.quiescedSwitch h l).masterOut = s.masterOut := by
  simp only [State.quiescedSwitch]; repeat (first | rfl | split | simp)
@[simp] theorem State.quiescedSwitch_targetOut (s : State) (h : Master) (l : Nat) :
    (s.quiescedSwitch h l).targetOut = s.targetOut := by
  simp only [State.quiescedSwitch]; repeat (first | rfl | split | simp)
@[simp] theorem State.quiescedSwitch_choices (s : State) (h : Master) (l : Nat) :
    (s.quiescedSwitch h l).choices = s.choices := by
  simp only [State.quiescedSwitch]; repeat (first | rfl | split | simp)
@[simp] theorem State.quiescedSwitch_pending (s : State) (h : Master) (l : Nat) :
    (s.quiescedSwitch h l).pending = s.pending := by
  simp only [State.quiescedSwitch]; repeat (first | rfl | split | simp)

end Sys2Proof.Machine
end

