-- ==== Sys2Proof/Laws/Search.lean ====
section
/-! SUPPORT. What the searches find: windows, overlapping pairs, FREE entries, eligible control heads, and
what a routing found says about the state. -/

namespace Sys2Proof.Machine

/-! ### Searches over an index range -/

theorem find?_finRange {n : Nat} {p : Fin n → Bool} {i : Fin n} (h : p i = true)
    (hlt : ∀ j, j < i → p j = false) : (List.finRange n).find? p = some i := by
  cases hf : (List.finRange n).find? p with
  | none =>
    rw [List.find?_eq_none] at hf
    exact absurd h (hf i (List.mem_finRange i))
  | some j =>
    have h1 := List.find?_some hf
    rcases lt_trichotomy j i with hji | rfl | hij
    · rw [hlt j hji] at h1; cases h1
    · rfl
    · rw [List.find?_eq_some_iff_getElem] at hf
      obtain ⟨_, k, hk, hkj, hall⟩ := hf
      simp only [List.getElem_finRange] at hkj
      have hik : i.val < k := by rw [← hkj] at hij; exact hij
      have := hall i.val hik
      simp [h] at this

theorem findSome?_finRange {n : Nat} {β : Type} {p : Fin n → Option β} {i : Fin n} {b : β}
    (h : p i = some b) (hlt : ∀ j, j < i → p j = none) : (List.finRange n).findSome? p = some b := by
  have h1 : (List.finRange n).find? (fun i => (p i).isSome) = some i :=
    find?_finRange (by simp [h]) (fun j hj => by simp [hlt j hj])
  rw [List.findSome?_eq_some_iff]
  rw [List.find?_eq_some_iff_append] at h1
  obtain ⟨_, as, bs, e, f⟩ := h1
  exact ⟨as, i, bs, e, h, fun a ha => by simpa using f a ha⟩

/-! ### The window map -/

theorem Window.holds_iff (w : Window) (a : Nat) : w.holds a = true ↔
    w.enabled = true ∧ w.base.toNat ≤ a ∧ a < w.base.toNat + 2 ^ w.sizeExp := by
  simp [Window.holds, and_assoc]

/-- A lookup of one byte never finds SPAN (R15, R22). -/
theorem State.lookup_one_not_span (s : State) (m : Master) (w : Bool) (a : Address) (r : Routing) :
    s.lookup m w a 1 ≠ .span r := by
  simp only [State.lookup]
  split
  · simp
  · next i hi =>
    have := List.find?_some hi
    simp only [Nat.add_sub_cancel, this, if_true]
    split <;> simp

theorem firstOverlap_eq_none {p : Plane} :
    firstOverlap p = none ↔ ∀ i j : WindowIndex, i < j → p[i].overlaps p[j] = false := by
  simp only [firstOverlap, List.findSome?_eq_none_iff, List.mem_finRange, true_implies,
    Option.map_eq_none_iff, List.find?_eq_none]
  simp

theorem NoOverlap.firstOverlap {p : Plane} (h : NoOverlap p) : firstOverlap p = none :=
  firstOverlap_eq_none.mpr fun i j hij => h i j (Fin.ne_of_lt hij)

/-- A routing found by a lookup is made under the live plane and the generation (R16). -/
theorem State.lookup_routing {s : State} {m : Master} {w : Bool} {a : Address} {len : Nat} {r : Routing}
    (h : s.lookup m w a len = .hit r) : r.plane = s.live ∧ r.generation = s.generation := by
  simp only [State.lookup] at h
  split at h
  · cases h
  · split at h
    · split at h
      · cases h; exact ⟨rfl, rfl⟩
      · cases h
    · cases h

/-! ### The head and its resources -/

/-- The tag check of R56 in terms of the entries. -/
theorem State.tagFree_iff (s : State) (m : Master) (tag : Tag) : s.tagFree m tag = true ↔
    ∀ i u, (s.entry i).use = some u → u.master = m → u.responseOwed = true →
      u.phase.counted = true → u.tag ≠ tag := by
  simp only [State.tagFree, ortIndices, List.all_eq_true, List.mem_finRange, true_implies]
  constructor
  · intro h i u hu h1 h2 h3 h4
    have := h i
    simp [OrtEntry.owes, hu, h1, h2, h3, h4] at this
  · intro h i
    simp only [OrtEntry.owes]
    cases hu : (s.entry i).use with
    | none => rfl
    | some u =>
      have := h i u hu
      by_cases h1 : u.master = m <;> by_cases h2 : u.responseOwed = true <;>
        by_cases h3 : u.phase.counted = true <;> simp_all

/-- A head that routing sends on has a current routing to a port in UP. -/
theorem State.routePhase_routed {s : State} {m : Master} {q : Request} {r : Routing} {k : Kind}
    (h : s.routePhase m q = .routed r k) :
    r.plane = s.live ∧ r.generation = s.generation ∧ (s.target r.target).state = .up ∧
      (k ≠ .writeP → s.tagFree m q.tag = true) := by
  simp only [State.routePhase] at h
  split at h
  · cases h
  split at h
  · cases h
  split at h
  · cases h
  · cases h
  · cases h
  next r' hl =>
    obtain ⟨e1, e2⟩ := State.lookup_routing hl
    split at h
    · cases h
    next hu =>
      split at h
      · cases h
      next ht =>
        cases h
        refine ⟨e1, e2, by simpa using hu, fun hk => ?_⟩
        have := not_and.mp ht hk
        simpa using this

theorem State.freeIndex_eq_some {s : State} {i : OrtIndex} (h : (s.entry i).use = none)
    (hlt : ∀ j, j < i → (s.entry j).use ≠ none) : s.freeIndex = some i :=
  find?_finRange (by simp [h]) fun j hj => by
    cases hu : (s.entry j).use with
    | none => exact absurd hu (hlt j hj)
    | some _ => rfl

theorem State.freeIndex_free {s : State} {i : OrtIndex} (h : s.freeIndex = some i) :
    (s.entry i).use = none := by
  simpa using List.find?_some h

theorem ResponseUnit.hasFree_eq_false (r : ResponseUnit) :
    r.hasFree = false ↔ 16 ≤ r.reserved.length + r.filled.length := by
  rw [ResponseUnit.hasFree, decide_eq_false_iff_not, ResponseUnit.slotsInUse]
  omega

theorem State.controlEligible_eq_false (s : State) (m : Master) : s.controlEligible m = false ↔
    (s.controlHead m = none ∨ 16 ≤ (s.port m).resp.reserved.length + (s.port m).resp.filled.length) := by
  simp only [State.controlEligible, Bool.and_eq_false_iff, ResponseUnit.hasFree_eq_false]
  cases s.controlHead m <;> simp

/-! ### Queues and credits -/

/-- Handing out a notice keeps the notice queue law (R139). -/
theorem pushNotice_keeps {q : List Notice} (h : NoticeQueueLaw q) (n : Notice) :
    NoticeQueueLaw (pushNotice q n) := by
  obtain ⟨h1, h2, h3⟩ := h
  unfold pushNotice
  split
  · next lost hl =>
    have hne : q ≠ [] := by rintro rfl; cases hl
    have hpos := List.length_pos_iff.mpr hne
    refine ⟨by simp; omega, by simpa using h2, fun _ => ⟨satInc lost, by simp⟩⟩
  · next hl =>
    have all : ∀ x ∈ q, x.isOverflow = false := by
      intro x hx
      rcases List.eq_nil_or_concat q with rfl | ⟨l, y, rfl⟩
      · cases hx
      · simp only [List.concat_eq_append, List.mem_append, List.mem_singleton] at hx
        rcases hx with hx | rfl
        · exact h2 x (by simpa using hx)
        · cases hy : x with
          | overflow k => exact absurd (by simp [hy]) (hl k)
          | _ => rfl
    split
    · next hlt =>
      refine ⟨by simp; omega, by simpa using all, fun h => ?_⟩
      simp at h
      omega
    · next hge =>
      have h7 : q.length = 7 := by
        by_contra hc
        obtain ⟨k, hk⟩ := h3 (by omega)
        exact hl k hk
      exact ⟨by simp; omega, by simpa using all, fun _ => ⟨1, by simp⟩⟩

theorem Credits.spend_balanced {c : Credits} (h : c.Balanced) (hh : 1 ≤ c.held) :
    c.spend.Balanced := by
  unfold Credits.Balanced Credits.spend at *
  simp only
  omega

theorem Credits.restore_balanced {c : Credits} (h : c.Balanced) (n : Nat) :
    (c.restore n).Balanced := by
  unfold Credits.Balanced Credits.restore at *
  simp only
  omega

theorem Credits.grant_balanced {n : Nat} (h : n ≤ 32) : (Credits.grant n).Balanced := by
  unfold Credits.Balanced Credits.grant
  simp only
  omega

theorem Credits.zero_balanced : Credits.zero.Balanced := by
  unfold Credits.Balanced Credits.zero
  simp

end Sys2Proof.Machine
end

