-- ==== Sys2Proof/Laws/Step.lean ====
section
/-! SUPPORT. The shape of a step: which commands are events of a powered part, how heads are routed in an
event, and how a control operation is carried out. -/

namespace Sys2Proof.Machine

/-- Every command but the two of PWRON_N is an event of a powered part. -/
theorem exec_takes_event (c : Instr) (h1 : c ≠ .pwronLow) (h2 : ∀ a b d e, c ≠ .powerOn a b d e) :
    ∃ f, ∀ s, exec c s = takeEvent s f := by
  cases c with
  | pwronLow => exact absurd rfl h1
  | powerOn a b d e => exact absurd rfl (h2 a b d e)
  | _ =>
    simp only [exec, execRead, execWrite, execFence, execControl, execLinkUp, execCredit,
      execLinkReset, execMasterLinkLost, execMalformedMasterFrame, execHeadRouting, execSlotClaimGrant,
      execAdmissionAttempt, execTargetDownAnnouncement, execFenceTake, execControlTake, execGetWindow,
      execProbe, execGetPlaneStatus, execGetMasterStatus, execGetTargetStatus, execGetSettings,
      execClaimEdit, execReleaseEdit, execPutWindow, execRevertStaged, execRequestSwitch,
      execCancelSwitch, execSetLeasePeriod, execSetMasterLimits, execSetDeadlines,
      execClearQuarantine, execResetTarget, execUnknownOperation, execLeaseTimerExpiry,
      execDrainLimitExpiry, execPlaneCountDecrement, execFlushReport, execGrantEvent,
      execTargetLinkDetected, execTargetLinkLost, execTReady, execTCredit, execTComplete,
      execTAccept, execTReject, execTRetry, execMalformedTargetFrame, execDeadlineExpiry,
      execLapseEnd, execBackoffEnd, execStallExpiry, execSendEvent, carryOut, takePortEvent]
    exact ⟨_, fun _ => rfl⟩

/-- In a powered part HEAD_ROUTING of a head that is UNROUTED with no slot is the routing of a new head
(R53, R54). -/
theorem State.newHeadRouted_eq {s : State} {m : Master} (h : s.pwronN = true)
    (hp : (s.port m).ingress.headPhase = .unrouted) (hs : (s.port m).ingress.headSlot = false) :
    s.newHeadRouted m = s.routeNewHead m := by
  simp only [State.newHeadRouted, State.after, exec, execHeadRouting, takeEvent, h, if_true,
    State.routeUnrouted, State.routeNewHead, hp]
  cases s.headRequest m with
  | none => rfl
  | some q => simp [State.routeHead, State.setHeadPhase, State.modIngress, hs]

/-- In a powered part the leaving of a head, as statements spell it, is the one that the meanings share
(R50, R53, R54). -/
theorem State.headLeft_eq {s : State} (h : s.pwronN = true) (m : Master) :
    s.headLeft m = s.dataLeaves m :=
  State.newHeadRouted_eq (by simpa using h) (by simp [State.modIngress])
    (by simp [State.modIngress])

/-- In a powered part the heads of `order` are routed in turn: what a statement says of the heads that
resume is what the Plane Controller's events do (R54). -/
theorem State.resumed_eq {s : State} (h : s.pwronN = true) (order : List Master) :
    s.resumed order = ({ s with choices := s.choices + 1 }).routeWaiting order := by
  have key : ∀ (l : List Master) (u : State), u.pwronN = true →
      l.foldl (fun s m => s.after (.headRouting m)) u = u.routeWaiting l := by
    intro l
    induction l with
    | nil => exact fun _ _ => rfl
    | cons m l ih =>
      intro u hu
      have e : u.after (.headRouting m) = u.routeUnrouted m := by
        simp [State.after, exec, execHeadRouting, hu]
      rw [List.foldl_cons, e, ih _ (by simpa using hu)]
      rfl
  exact key order _ h

/-- The heads resume, in some order of the four masters (R54, log 26). -/
theorem State.resumeHeads_resumed {s : State} (h : s.pwronN = true) :
    ∃ order : List Master, order.Perm [0, 1, 2, 3] ∧ s.resumeHeads = s.resumed order := by
  obtain ⟨order, hp, he⟩ := s.resumeHeads_eq
  exact ⟨order, hp, he.trans (State.resumed_eq h order).symm⟩

/-- Where a control operation's command finds its code, its argument size and the checks before its own
(R181, R191). -/
theorem exec_operation (c : Instr) (code : Byte) (h : c.operationCode? = some code) :
    ∃ (e : Entry) (na : State → ResultRecord) (of own : Operation → State → State),
      (∀ s, exec c s = carryOut e na of own s) ∧ e.code = code ∧ e.argBytes = argumentBytes code ∧
      (e.admin = decide (7 ≤ code.toNat)) ∧
      (7 ≤ code.toNat → ∀ s, na s =
        if code.toNat ≤ 12 then
          .planeRefusal s.planeState.phase s.generation s.planeState.holder
        else .empty) ∧
      (∀ op s, of op s = if 9 ≤ code.toNat ∧ code.toNat ≤ 11 then s.renewLease op else s) := by
  cases c <;> simp only [Instr.operationCode?, Option.some.injEq, reduceCtorEq] at h <;> subst h
  all_goals
    refine ⟨_, _, _, _, fun s => by
      simp only [exec, execGetWindow, execProbe, execGetPlaneStatus, execGetMasterStatus,
        execGetTargetStatus, execGetSettings, execClaimEdit, execReleaseEdit, execPutWindow,
        execRevertStaged, execRequestSwitch, execCancelSwitch, execSetLeasePeriod,
        execSetMasterLimits, execSetDeadlines, execClearQuarantine, execResetTarget]
      rfl, rfl, rfl, rfl, ?_, ?_⟩
  all_goals first | (intro h; exact absurd h (by decide)) | (intro _ s; rfl)

/-- An operation whose checks before its own pass is carried out by its own rule. -/
theorem carryOut_own {e : Entry} {na : State → ResultRecord} {of own : Operation → State → State}
    {s : State} {op : Operation} {c : Byte} {n : Nat} (h : s.Executing op c n) (hc : e.code = c)
    (hn : e.argBytes = n) (ha : e.admin = true → s.isAdmin op.requester = true) :
    carryOut e na of own s = .next (own op s) := by
  obtain ⟨hp, ho, h1, h2⟩ := h
  simp only [carryOut, takeEvent, hp, ho, if_true]
  subst hc hn
  simp only [h1, h2, ne_eq, not_true, if_false]
  cases hA : e.admin with
  | false => simp
  | true => simp [ha hA]

/-- An admin operation of a master that is no admin master (R181). -/
theorem carryOut_notAdmin {e : Entry} {na : State → ResultRecord} {of own : Operation → State → State}
    {s : State} {op : Operation} {c : Byte} {n : Nat} (h : s.Executing op c n) (hc : e.code = c)
    (ha : e.admin = true) (hr : s.isAdmin op.requester = false) :
    carryOut e na of own s = .next (s.finish op .notAdmin (na s)) := by
  obtain ⟨hp, ho, h1, h2⟩ := h
  simp only [carryOut, takeEvent, hp, ho, if_true]
  subst hc
  simp [h1, ha, hr]

end Sys2Proof.Machine
end

