-- ==== Sys2Proof/Tests/Slice0.lean ====
section
/-! SUPPORT. Tests: the well-formedness checks, results from the manual's own words on small states, and for
each statement with hypotheses a state and operands that meet them. -/

namespace Sys2Proof.Tests

open Sys2Proof Sys2Proof.Machine

set_option Elab.async false

/-! ## WellFormed: a command that each check refuses, and its well-formed neighbour -/

theorem test_wf_write : Instr.wf (.write 0 1 2 0 [7]) = false ∧ Instr.wf (.write 0 1 2 0 [7, 8]) = true ∧
    Instr.wf (.write 0 1 0 0 []) = true ∧ Instr.wf (.write 0 1 257 0 [7]) = false := by decide

theorem test_wf_control : Instr.wf (.control 0 1 3 (List.replicate 256 0)) = false ∧
    Instr.wf (.control 0 1 3 (List.replicate 255 0)) = true := by decide +kernel

theorem test_wf_tComplete : Instr.wf (.tComplete 0 1 0 (List.replicate 257 0)) = false ∧
    Instr.wf (.tComplete 0 1 0 (List.replicate 256 0)) = true := by decide +kernel

theorem test_wf_malformedMasterFrame : Instr.wf (.malformedMasterFrame 0 [0x12]) = false ∧
    Instr.wf (.malformedMasterFrame 0 [0x12, 0]) = true := by decide

theorem test_wf_malformedTargetFrame : Instr.wf (.malformedTargetFrame 0 [0x25, 9]) = false ∧
    Instr.wf (.malformedTargetFrame 0 [0x25]) = true := by decide

/-! ## Frames written out from 11.2 and 11.3 -/

theorem test_decode_read : decodeMasterFrame 2
    [0x01, 0x1F, 0x40, 0x00, 0x00, 0x10, 0x00, 0x00, 0x34, 0x12, 0x00, 0x00] =
      .read 2 31 64 0x123400001000 := by decide

theorem test_decode_write : decodeMasterFrame 1
    [0x02, 0x03, 0x02, 0x00, 0xFF, 0x00, 0x00, 0x00, 0x00, 0x00, 0x00, 0x00, 0xAA, 0xBB] =
      .write 1 3 2 0xFF [0xAA, 0xBB] := by decide

theorem test_decode_links : decodeMasterFrame 0 [0x03, 0x05, 0, 0] = .fence 0 5 ∧
    decodeMasterFrame 0 [0x04, 0x05, 0x01, 0x02, 0, 7] = .control 0 5 1 [0, 7] ∧
    decodeMasterFrame 0 [0x10, 16] = .linkUp 0 16 ∧ decodeMasterFrame 0 [0x11, 1] = .credit 0 1 ∧
    decodeMasterFrame 0 [0x12] = .linkReset 0 ∧
    decodeTargetFrame 5 [0x20, 32, 1] = .tReady 5 32 1 ∧
    decodeTargetFrame 5 [0x22, 0x05, 0, 0, 2, 0, 9, 8] = .tComplete 5 5 0 [9, 8] ∧
    decodeTargetFrame 5 [0x24, 0xFF, 0] = .tReject 5 0xFF 0 := by decide

/-! ## Small states -/

/-- Reset with port `m` in a state, with `n` data and two control credits outstanding or owed and four
response credits. -/
def opened (m : Master) (st : PortState) (n : Nat) (s : State) : State :=
  s.modPort m fun p =>
    { p with
      state := st
      ingress := { p.ingress with dataOutstanding := n, dataOwed := 8 - n, controlOutstanding := n,
                                  controlOwed := 0 }
      resp := { p.resp with advertised := 4, credits := 4 } }

/-- Port 0 ACTIVE with `pkt` at its data head, in a phase, with or without its slot. -/
def headed (pkt : DataPacket) (ph : HeadPhase) (slot : Bool) (s : State) : State :=
  (opened 0 .active 7 s).modPort 0 fun p =>
    { p with
      ingress := { p.ingress with dataQueue := [pkt], headPhase := ph, headSlot := slot, dataOwed := 0 }
      resp := { p.resp with reserved := if slot then [.head] else [] } }

/-- Operation `code` of M0 with arguments, in execution. -/
def during (code : Byte) (args : List Byte) (s : State) : State :=
  { opened 0 .active 8 s with control := { s.control with op := some ⟨0, 3, code, args⟩ } }

/-- The operation that `during` puts in execution. -/
def opOf (code : Byte) (args : List Byte) : Operation := ⟨0, 3, code, args⟩

/-- A target port UP with two credits of each class. -/
def targetUp (t : Target) (s : State) : State :=
  s.modTarget t fun p => { p with state := .up, posted := ⟨2, 2, 0⟩, request := ⟨2, 2, 0⟩ }

/-- The Plane Controller in a state. -/
def planeIn (ps : PlaneState) (s : State) : State := { s with planeState := ps }

/-- An ORT entry of master 0 to target 0. -/
def useOf (kind : Kind) (phase : OrtPhase) : OrtUse :=
  { phase := phase, master := 0, tag := 9, kind := kind, cls := .strict, plane := 0, window := 0,
    target := 0, address := 0x40, length := 64, blocks := if kind = .read then 0 else 1, data := [],
    retries := 0, responseOwed := kind != .writeP, failureReporting := kind == .writeP }

/-- A state with the entry `u` of master 0 at index `i`, in its lane if its phase says so, with its slot
RESERVED if a response is owed. -/
def entered (i : OrtIndex) (u : OrtUse) (s : State) : State :=
  let s := opened 0 .active 8 s
  let s := { s with
    ort := s.ort.set i { reuse := 1, use := some u }
    held := s.held.set 0 1
    refCounts := if u.phase.counted then s.refCounts.set u.plane 1 else s.refCounts
    freeBlocks := s.freeBlocks - u.blocks }
  let s := if u.phase.inLane then s.setLane 0 0 [i] else s
  s.modResp 0 fun r => { r with reserved := if u.responseOwed then [.ort i] else [] }

/-- The lane law, checked index by index. -/
def laneCheck (s : State) : Bool :=
  ortIndices.all (fun i =>
    match (s.entry i).use with
    | none => true
    | some u => !u.phase.inLane || decide (i ∈ s.lane u.target u.master))
  && allTargets.all fun t => allMasters.all fun m =>
    (s.lane t m).all (fun i =>
      match (s.entry i).use with
      | none => false
      | some u => u.phase.inLane && u.target == t && u.master == m)
    && decide (s.lane t m).Nodup && decide ((s.lane t m).length ≤ 16)

theorem laneLaw_of_check {s : State} (h : laneCheck s = true) : s.LaneLaw := by
  simp only [laneCheck, Bool.and_eq_true, List.all_eq_true] at h
  obtain ⟨h1, h2⟩ := h
  have mt : ∀ t : Target, t ∈ allTargets := by decide
  have mm : ∀ m : Master, m ∈ allMasters := by decide
  refine ⟨?_, ?_, ?_⟩
  · intro i u hu hin
    have := h1 i (List.mem_finRange i)
    simpa [hu, hin] using this
  · intro t m i hi
    have := ((h2 t (mt t) m (mm m)).1.1) i hi
    cases hu : (s.entry i).use with
    | none => simp [hu] at this
    | some u =>
      simp only [hu, Bool.and_eq_true, beq_iff_eq] at this
      exact ⟨u, rfl, this.1.1, this.1.2, this.2⟩
  · intro t m
    have := h2 t (mt t) m (mm m)
    exact ⟨of_decide_eq_true this.1.2, of_decide_eq_true this.2⟩

/-- The promise law, checked index by index. -/
def promiseCheck (s : State) : Bool :=
  ortIndices.all (fun i =>
    match (s.entry i).use with
    | none => true
    | some u => !u.responseOwed || (u.kind != .writeP && u.phase.counted && s.isActive u.master
        && decide (.ort i ∈ (s.port u.master).resp.reserved)))
  && allMasters.all fun m =>
    (!(s.port m).ingress.headSlot || decide (.head ∈ (s.port m).resp.reserved))
    && ((s.port m).fence.slot.isNone || decide (.fence ∈ (s.port m).resp.reserved))

theorem promiseLaw_of_check {s : State} (h : promiseCheck s = true) : s.PromiseLaw := by
  simp only [promiseCheck, Bool.and_eq_true, List.all_eq_true] at h
  obtain ⟨h1, h2⟩ := h
  have mm : ∀ m : Master, m ∈ allMasters := by decide
  refine ⟨?_, ?_, ?_⟩
  · intro i u hu ho
    have := h1 i (List.mem_finRange i)
    simpa [hu, ho, State.isActive, and_assoc] using this
  · intro m hm
    have := (h2 m (mm m)).1
    simpa [hm] using this
  · intro m hm
    have := (h2 m (mm m)).2
    cases hf : (s.port m).fence.slot with
    | none => exact absurd hf hm
    | some f => simpa [hf] using this

/-! ## Witnesses: the machine and the master links -/

theorem witness_EmptyQueueTakesReadyEventOrTicks :
    (State.reset.pending = [] ∧ State.reset.pwronN = true) ∧
    ({ State.reset with pwronN := false }.pending = [] ∧
      { State.reset with pwronN := false }.pwronN = false) := by decide

theorem witness_NoEventWithoutPowerOrPort :
    ({ State.reset with pwronN := false }.pwronN = false ∧ Instr.probe ≠ .pwronLow ∧
      ∀ a b c d, Instr.probe ≠ .powerOn a b c d) ∧
    ((Instr.credit 3 1).masterPort? = some 3 ∧ (State.powerOn ⟨7, 0, 0, 0⟩).masterPresent 3 = false) :=
  ⟨⟨rfl, by decide, fun _ _ _ _ h => by cases h⟩, by decide⟩

theorem hears (s : State) (m : Master) (h : s.pwronN = true ∧ s.masterPresent m = true) :
    s.HearsMaster m := h

theorem witness_RequestPacketsByPortState :
    ((Instr.read 0 1 0 0).dataPacket? = some (0, .read 1 0 0) ∧
      (Instr.write 0 1 0 0 []).dataPacket? = some (0, .write 1 0 0 []) ∧
      (Instr.write 0 1 1 0 [7]).dataPacket? = some (0, .write 1 1 0 [7]) ∧
      (Instr.fence 0 1).dataPacket? = some (0, .fence 1)) ∧
    (∀ st : PortState, (opened 0 st 1 State.reset).HearsMaster 0 ∧
      ((opened 0 st 1 State.reset).port 0).state = st ∧
      1 ≤ ((opened 0 st 1 State.reset).port 0).ingress.dataOutstanding ∧
      1 ≤ ((opened 0 st 1 State.reset).port 0).ingress.controlOutstanding) ∧
    ((opened 0 .active 1 State.reset).port 0).ingress.dataQueue = [] ∧
    (let s : State := (opened 0 .active 1 State.reset).modIngress 0 fun g =>
        { g with dataQueue := [.fence 3] };
      s.HearsMaster 0 ∧ (s.port 0).state = .active ∧ 1 ≤ (s.port 0).ingress.dataOutstanding ∧
      (s.port 0).ingress.dataQueue ≠ []) ∧
    ((opened 0 .active 0 State.reset).HearsMaster 0 ∧
      ((opened 0 .active 0 State.reset).port 0).ingress.dataOutstanding = 0 ∧
      ((opened 0 .active 0 State.reset).port 0).ingress.controlOutstanding = 0) ∧
    (List.replicate 255 (0 : Byte)).length ≤ 255 :=
  ⟨by decide, fun st => ⟨hears _ _ (by cases st <;> decide), by cases st <;> decide,
    by cases st <;> decide, by cases st <;> decide⟩, by decide, ⟨hears _ _ (by decide), by decide⟩,
    ⟨hears _ _ (by decide), by decide⟩, by decide +kernel⟩

theorem witness_LinkUpOpensThePort :
    State.reset.HearsMaster 0 ∧ (State.reset.port 0).state = .offline ∧
    (1 ≤ (1 : Byte).toNat ∧ (16 : Byte).toNat ≤ 16) ∧ (0 : Byte).toNat = 0 ∧ 16 < (17 : Byte).toNat ∧
    (∀ st : PortState, (opened 0 st 8 State.reset).HearsMaster 0 ∧
      ((opened 0 st 8 State.reset).port 0).state = st) :=
  ⟨hears _ _ (by decide), by decide, by decide, by decide, by decide,
    fun st => ⟨hears _ _ (by cases st <;> decide), by cases st <;> decide⟩⟩

/-- `opened` with one of its four response credits held. -/
def spent (st : PortState) : State :=
  (opened 0 st 8 State.reset).modResp 0 fun r => { r with credits := 1 }

theorem witness_CreditReturnsResponseCredits : ∀ st : PortState, (spent st).HearsMaster 0 ∧
    ((spent st).port 0).resp.credits ≤ ((spent st).port 0).resp.advertised ∧
    ((spent st).port 0).state = st ∧
    (3 : Byte).toNat ≤ ((spent st).port 0).resp.advertised - ((spent st).port 0).resp.credits ∧
    ((spent st).port 0).resp.advertised - ((spent st).port 0).resp.credits < (4 : Byte).toNat :=
  fun st => ⟨hears _ _ (by cases st <;> decide), by cases st <;> decide⟩

/-- An ISSUED read and, after it, a WAITING posted write. -/
def issuedRead : State := entered 5 (useOf .read (.issued 20)) (targetUp 0 State.reset)
def waitingPost : State := entered 63 (useOf .writeP (.waiting 20)) (targetUp 0 State.reset)

theorem laws_issuedRead : issuedRead.LaneLaw ∧ issuedRead.PromiseLaw :=
  ⟨laneLaw_of_check (by decide +kernel), promiseLaw_of_check (by decide +kernel)⟩

theorem laws_waitingPost : waitingPost.LaneLaw ∧ waitingPost.PromiseLaw :=
  ⟨laneLaw_of_check (by decide +kernel), promiseLaw_of_check (by decide +kernel)⟩

theorem witness_EndOfMasterLink :
    (∀ st : PortState, (opened 0 st 8 State.reset).HearsMaster 0 ∧
      ((opened 0 st 8 State.reset).port 0).state = st) ∧
    issuedRead.HearsMaster 0 ∧ (issuedRead.port 0).state = .active ∧ issuedRead.LaneLaw ∧
    (issuedRead.entry 5).use ≠ none ∧
    waitingPost.HearsMaster 0 ∧ (waitingPost.port 0).state = .active ∧ waitingPost.LaneLaw :=
  ⟨fun st => ⟨hears _ _ (by cases st <;> decide), by cases st <;> decide⟩, hears _ _ (by decide),
    by decide, laws_issuedRead.1, by decide +kernel, hears _ _ (by decide), by decide, laws_waitingPost.1⟩

theorem witness_MalformedMasterFrameIsCounted :
    (∀ frame ∈ ([[], [0x01], [0x02, 0], [0x03, 0], [0x04, 0, 0, 1], [0x12, 0], [0xFF]] : List (List Byte)),
      decodeMasterFrame 0 frame = .malformedMasterFrame 0 frame) ∧
    (∀ st : PortState, (opened 0 st 1 State.reset).HearsMaster 0) :=
  ⟨by decide, fun st => hears _ _ (by cases st <;> decide)⟩

/-! ## Witnesses: lookup and admission -/

/-- Reset with target 0 UP: the boot window, 16 MiB at 0, leads to it. -/
def booted : State := targetUp 0 State.reset

/-- `booted` with entry 0 of both planes changed. -/
def mapped (f : Window → Window) : State :=
  { booted with
    planes := Vector.replicate 2
      ((Vector.replicate 32 Window.zero).set 0 (f (bootWindow Config.resetStraps))) }

theorem noOverlap_mapped (f : Window → Window) (p : PlaneId) : NoOverlap (mapped f).planes[p] := by
  intro i j hij
  have hz : ∀ k : WindowIndex, k ≠ 0 → (mapped f).planes[p][k].enabled = false := by
    intro k hk
    have : ¬ (0 = k.val) := fun e => hk (Fin.ext e.symm)
    simp [mapped, Vector.getElem_set_ne _ _ this, Window.zero]
  by_cases hi : i = 0
  · have hj : j ≠ 0 := fun e => hij (hi.trans e.symm)
    simp only [Window.overlaps, hz j hj, Bool.and_false, Bool.false_and]
  · simp only [Window.overlaps, hz i hi, Bool.false_and]

theorem mapped_holds (i : WindowIndex) (a : Nat) (b : Bool)
    (h : ((mapped id).window (mapped id).live i).holds a = b) :
    (((mapped id).window (mapped id).live i).enabled = true ∧
      ((mapped id).window (mapped id).live i).base.toNat ≤ a ∧
      a < ((mapped id).window (mapped id).live i).base.toNat +
        2 ^ ((mapped id).window (mapped id).live i).sizeExp) ↔ b = true := by
  rw [← Window.holds_iff, h]

theorem witness_LookupByFirstByteLastByteAccess :
    NoOverlap (mapped id).planes[(mapped id).live] ∧
    (∀ i, ¬(((mapped id).window (mapped id).live i).enabled = true ∧
      ((mapped id).window (mapped id).live i).base.toNat ≤ (0x1000000 : Address).toNat ∧
      (0x1000000 : Address).toNat < ((mapped id).window (mapped id).live i).base.toNat +
        2 ^ ((mapped id).window (mapped id).live i).sizeExp)) ∧
    (∀ a ∈ ([0, 0xFFFFFF] : List Address), ((mapped id).window (mapped id).live 0).enabled = true ∧
      ((mapped id).window (mapped id).live 0).base.toNat ≤ a.toNat ∧
      a.toNat < ((mapped id).window (mapped id).live 0).base.toNat +
        2 ^ ((mapped id).window (mapped id).live 0).sizeExp) := by
  have out : ∀ i, ((mapped id).window (mapped id).live i).holds (0x1000000 : Address).toNat = false := by
    decide +kernel
  have low : ((mapped id).window (mapped id).live 0).holds (0 : Address).toNat = true := by
    decide +kernel
  have high : ((mapped id).window (mapped id).live 0).holds (0xFFFFFF : Address).toNat = true := by
    decide +kernel
  have within : ∀ a ∈ ([0, 0xFFFFFF] : List Address),
      ((mapped id).window (mapped id).live 0).holds a.toNat = true := by
    intro a ha
    rcases List.mem_pair.mp ha with rfl | rfl
    exacts [low, high]
  exact ⟨noOverlap_mapped id (mapped id).live,
    fun i h => Bool.noConfusion ((mapped_holds i _ _ (out i)).mp h),
    fun a ha => (mapped_holds 0 _ _ (within a ha)).mpr rfl⟩

theorem test_lookup_results :
    (mapped id).lookup 0 true 0xFFFFFF 1 = .hit ((mapped id).routingOf 0 0xFFFFFF) ∧
    (mapped id).lookup 0 false 0xFFFFFF 2 = .span ((mapped id).routingOf 0 0xFFFFFF) ∧
    (mapped id).lookup 0 false 0x1000000 1 = .noWindow ∧
    (mapped fun w => { w with access := Vector.replicate 4 .read }).lookup 0 true 0 1 =
      .noAccess ((mapped fun w => { w with access := Vector.replicate 4 .read }).routingOf 0 0) := by
  decide +kernel

/-- A READ of `len` bytes at `a` with tag 9. -/
def readOf (len : LengthField) (a : Address) : DataPacket := .read 9 len a

/-- The request of `readOf`. -/
def readReq (len : Nat) (a : Address) : Request := ⟨false, 9, len, a, []⟩

theorem atHead (s : State) (m : Master) (q : Request) (h : s.pwronN = true ∧ s.headRequest m = some q) :
    s.AtHead m q := h

/-- A head in UNROUTED without a slot, over a state. -/
def unrouted (pkt : DataPacket) (s : State) : State := headed pkt .unrouted false s

theorem witness_HeadRoutingChecksInOrder :
    (∀ len ∈ ([0, 1, 256, 257] : List LengthField),
      (unrouted (readOf len 0) booted).AtHead 0 (readReq len.toNat 0) ∧
      ((unrouted (readOf len 0) booted).port 0).ingress.headPhase = .unrouted ∧
      ((unrouted (readOf len 0) booted).port 0).ingress.headSlot = false) ∧
    (unrouted (readOf 1 0) (planeIn (.holding 1 ⟨0, 5⟩) booted)).planeState.phase = .holding ∧
    (unrouted (readOf 1 0) booted).planeState.phase ≠ .holding ∧
    (unrouted (readOf 1 0x1000000) booted).lookup 0 false 0x1000000 1 = .noWindow ∧
    (unrouted (readOf 2 0xFFFFFF) booted).lookup 0 false 0xFFFFFF 2 =
      .span (booted.routingOf 0 0xFFFFFF) ∧
    (unrouted (readOf 1 0) (mapped fun w => { w with access := Vector.replicate 4 .none })).lookup 0
      false 0 1 =
        .noAccess ((mapped fun w => { w with access := Vector.replicate 4 .none }).routingOf 0 0) ∧
    ((unrouted (readOf 1 0) State.reset).lookup 0 false 0 1 = .hit (booted.routingOf 0 0) ∧
      ((unrouted (readOf 1 0) State.reset).target (booted.routingOf 0 0).target).state ≠ .up) ∧
    ((unrouted (readOf 1 0) booted).lookup 0 false 0 1 = .hit (booted.routingOf 0 0) ∧
      ((unrouted (readOf 1 0) booted).target (booted.routingOf 0 0).target).state = .up) ∧
    ((mapped fun w => { w with cls := .posted }).lookup 0 true 0 1 =
      .hit ((mapped fun w => { w with cls := .posted }).routingOf 0 0) ∧
      ((mapped fun w => { w with cls := .posted }).routingOf 0 0).cls = .posted) :=
  ⟨by
    intro len hl
    simp only [List.mem_cons, List.not_mem_nil, or_false] at hl
    rcases hl with rfl | rfl | rfl | rfl <;> exact ⟨atHead _ _ _ (by decide), by decide⟩,
    by decide, by decide, by decide +kernel, by decide +kernel, by decide +kernel, by decide +kernel,
    by decide +kernel, by decide +kernel⟩

theorem witness_HeadRoutingChecksInOrder_tags :
    (∃ i u, (issuedRead.entry i).use = some u ∧ u.master = 0 ∧ u.responseOwed = true ∧
      u.phase.counted = true ∧ u.tag = (readReq 1 0).tag) ∧
    (∀ i u, (waitingPost.entry i).use = some u → u.master = 0 → u.responseOwed = true →
      u.phase.counted = true → u.tag ≠ (readReq 1 0).tag) :=
  ⟨⟨5, useOf .read (.issued 20), by decide +kernel⟩,
    (State.tagFree_iff waitingPost 0 9).mp (by decide +kernel)⟩

/-- No head, a FENCE head and a REFUSED head: HEAD_ROUTING has nothing to route. -/
theorem witness_HeadRoutingChecksInOrder_nothingToRoute :
    (booted.pwronN = true ∧ booted.headRequest 0 = none) ∧
    (unrouted (.fence 3) booted).headRequest 0 = none ∧
    ((headed (readOf 4 0) (.refused .noWindow) false booted).port 0).ingress.headPhase ≠ .unrouted := by
  decide +kernel

theorem witness_HeadRoutingWithSlot :
    let s (len : LengthField) (b : State) : State := headed (readOf len 0) .unrouted true b
    ((s 1 booted).AtHead 0 (readReq 1 0) ∧ ((s 1 booted).port 0).ingress.headPhase = .unrouted ∧
      ((s 1 booted).port 0).ingress.headSlot = true ∧ .head ∈ ((s 1 booted).port 0).resp.reserved ∧
      (s 1 booted).routePhase 0 (readReq 1 0) = .routed (booted.routingOf 0 0) .read) ∧
    (s 0 booted).routePhase 0 (readReq 0 0) = .refused .badLength ∧
    (s 1 (planeIn (.holding 1 ⟨0, 5⟩) booted)).routePhase 0 (readReq 1 0) = .unrouted :=
  ⟨⟨atHead _ _ _ (by decide), by decide +kernel⟩, by decide +kernel, by decide +kernel⟩

/-- A state whose completion queue of M0 has `n` RESERVED slots. -/
def reservedSlots (n : Nat) (s : State) : State :=
  s.modResp 0 fun r => { r with reserved := List.replicate n .control }

theorem witness_SlotClaimGrant :
    let full (n : Nat) (pkt : DataPacket) (ph : HeadPhase) : State :=
      reservedSlots n (headed pkt ph false booted)
    (16 ≤ ((full 16 (readOf 1 0) .unrouted).port 0).resp.reserved.length +
      ((full 16 (readOf 1 0) .unrouted).port 0).resp.filled.length) ∧
    (((full 15 (readOf 0 0) (.refused .badLength)).port 0).resp.reserved.length +
        ((full 15 (readOf 0 0) (.refused .badLength)).port 0).resp.filled.length < 16 ∧
      ((full 15 (readOf 0 0) (.refused .badLength)).port 0).ingress.headSlot = false ∧
      (full 15 (readOf 0 0) (.refused .badLength)).headRequest 0 = some (readReq 0 0) ∧
      ((full 15 (readOf 0 0) (.refused .badLength)).port 0).ingress.headPhase = .refused .badLength) ∧
    ((full 15 (.fence 3) .unrouted).dataHead 0 = some (.fence 3)) ∧
    ((full 15 (readOf 1 0) (.routed (booted.routingOf 0 0) .read)).headRequest 0 = some (readReq 1 0) ∧
      ((full 15 (readOf 1 0) (.routed (booted.routingOf 0 0) .read)).port 0).ingress.headPhase =
        .routed (booted.routingOf 0 0) .read) := by
  decide +kernel

/-- A ROUTED head with its slot, entry 0 in use, and only the resources the head needs left. -/
def ready (b : State) : State :=
  let s := headed (.write 9 65 0 []) (.routed (booted.routingOf 0 0) .writeNp) true b
  { s with ort := s.ort.set 0 { reuse := 0, use := some (useOf .read (.waiting 5)) }, freeBlocks := 2,
           held := s.held.set 0 15 }.setLane 0 0 (List.replicate 15 1)

theorem witness_AdmissionCreatesTheEntry :
    (ready booted).AtHead 0 ⟨true, 9, 65, 0, []⟩ ∧
    ((ready booted).port 0).ingress.headPhase = .routed (booted.routingOf 0 0) .writeNp ∧
    ((ready booted).port 0).ingress.headSlot = true ∧ .head ∈ ((ready booted).port 0).resp.reserved ∧
    (booted.routingOf 0 0).generation = (ready booted).generation ∧
    (ready booted).planeState.phase ≠ .holding ∧
    ((ready booted).target (booted.routingOf 0 0).target).state = .up ∧
    ((ready booted).entry 1).use = none ∧ (∀ j, j < 1 → ((ready booted).entry j).use ≠ none) ∧
    (ready booted).held[(0 : Master)] < ((ready booted).limits 0).quota ∧
    ((ready booted).lane (booted.routingOf 0 0).target 0).length < 16 ∧
    (if (true : Bool) then (65 + 63) / 64 else 0) ≤ (ready booted).freeBlocks :=
  ⟨atHead _ _ _ (by decide), by decide +kernel⟩

/-- A READ that arrives at an empty queue is routed in the event; behind a head it waits (R53, R54). -/
theorem test_arrivalRoutesTheHead :
    let s : State := (opened 0 .active 1 booted).after (.read 0 9 1 0)
    (s.port 0).ingress.headPhase = .routed (booted.routingOf 0 0) .read ∧
    ((s.after (.read 0 8 0 0)).port 0).ingress.headPhase = (s.port 0).ingress.headPhase ∧
    (((opened 0 .active 1 booted).after (.read 0 9 0 0)).port 0).ingress.headPhase = .refused .badLength ∧
    (((opened 0 .active 1 (planeIn (.holding 1 ⟨0, 5⟩) booted)).after (.read 0 9 1 0)).port
      0).ingress.headPhase = .unrouted := by
  decide +kernel

/-- Steps 1 and 2 of section 3.7 as one event: the packet behind the head admitted is routed in the
admission, and finds its tag held by the entry just made (R54, R56). -/
theorem test_nextHeadIsRoutedAtAdmission :
    let s : State := (ready booted).modIngress 0 fun g => { g with dataQueue := g.dataQueue ++ [readOf 1 0] }
    ((s.after (.admissionAttempt 0)).port 0).ingress.headPhase = .refused .tagInUse ∧
    ((s.after (.admissionAttempt 0)).headRequest 0) = some (readReq 1 0) := by
  decide +kernel

theorem witness_AttemptWaitsOrIsReroutedInOrder :
    let r := booted.routingOf 0 0
    ((ready booted).AtHead 0 ⟨true, 9, 65, 0, []⟩ ∧
      ((ready booted).port 0).ingress.headPhase = .routed r .writeNp ∧
      ((ready booted).port 0).ingress.headSlot = true) ∧
    r.generation ≠ (ready { booted with generation := 1 }).generation ∧
    ((ready State.reset).target r.target).state ≠ .up ∧
    (ready (planeIn (.holding 1 ⟨0, 5⟩) booted)).planeState.phase = .holding ∧
    (∀ i, ({ ready booted with ort := Vector.replicate 64 ⟨0, some (useOf .read (.waiting 5))⟩ }.entry
      i).use ≠ none) ∧
    (({ ready booted with held := Vector.replicate 4 16 }.limits 0).quota ≤
      { ready booted with held := Vector.replicate 4 16 }.held[(0 : Master)]) ∧
    16 ≤ (((ready booted).setLane 0 0 (List.replicate 16 1)).lane r.target 0).length ∧
    { ready booted with freeBlocks := 1 }.freeBlocks < (if (true : Bool) then (65 + 63) / 64 else 0) ∧
    ((ready booted).announcements[(0 : Master)][(0 : Target)] = 0 ∧
      0 < ((ready booted).setAnnouncement 0 0 1).announcements[(0 : Master)][(0 : Target)] ∧
      r.target = 0 ∧ 0 < ((ready booted).setAnnouncement 0 5 1).announcements[(0 : Master)][(5 : Target)] ∧
      r.target ≠ 5) :=
  ⟨⟨atHead _ _ _ (by decide), by decide +kernel⟩, by decide +kernel, by decide +kernel,
    by decide +kernel, by decide +kernel, by decide +kernel, by decide +kernel, by decide +kernel,
    by decide +kernel⟩

/-- No head, a FENCE head, an UNROUTED and a REFUSED head: none of them holds a routing. -/
theorem witness_AttemptWaitsOrIsReroutedInOrder_otherHeads :
    let s (b : State) : State := b.setAnnouncement 0 0 1
    (0 < (s booted).announcements[(0 : Master)][(0 : Target)] ∧ (s booted).headRequest 0 = none) ∧
    (s (headed (.fence 3) .unrouted true booted)).headRequest 0 = none ∧
    (∀ ph, ph = .unrouted ∨ ph = .refused .noWindow →
      ((s (headed (readOf 4 0) ph false booted)).port 0).ingress.headPhase = ph ∧
      ∀ r k, ph ≠ .routed r k) :=
  ⟨by decide +kernel, by decide +kernel, fun ph h => by
    rcases h with rfl | rfl <;> exact ⟨by decide +kernel, fun _ _ => by simp⟩⟩

/-- A FENCE head with its slot and a fence slot. -/
def fencing (slot : Option Fence) (s : State) : State :=
  (headed (.fence 3) .unrouted true s).modPort 0 fun p => { p with fence := ⟨slot, 2⟩ }

theorem witness_FenceTake :
    (∀ slot ∈ ([none, some ⟨[1], 0, 4⟩] : List (Option Fence)),
      (fencing slot booted).pwronN = true ∧ (fencing slot booted).dataHead 0 = some (.fence 3) ∧
      ((fencing slot booted).port 0).ingress.headSlot = true ∧
      .head ∈ ((fencing slot booted).port 0).resp.reserved) ∧
    ((fencing (some ⟨[1], 0, 4⟩) booted).port 0).fence.slot ≠ none ∧
    ((fencing none booted).port 0).fence.slot = none := by
  decide +kernel

/-- A FENCE is taken in the event in which its claim is granted, if the fence slot is EMPTY (R68, R153). -/
theorem test_fenceIsTakenAtItsGrant :
    let s (slot : Option Fence) : State := (unrouted (.fence 3) waitingPost).modPort 0 fun p =>
      { p with fence := ⟨slot, 2⟩ }
    (((s none).after (.slotClaimGrant 0)).port 0).fence.slot = some ⟨[63], 2, 3⟩ ∧
    (((s none).after (.slotClaimGrant 0)).port 0).ingress.dataQueue = [] ∧
    (((s (some ⟨[1], 0, 4⟩)).after (.slotClaimGrant 0)).port 0).ingress.headSlot = true := by
  decide +kernel

/-- Control heads at the masters of a list. -/
def controlHeads (l : List Master) (s : State) : State :=
  s.mapPorts fun m p =>
    if m ∈ l then { p with state := .active, ingress := { p.ingress with controlQueue := [⟨1, 7, []⟩] } }
    else p

theorem witness_ControlTakeByRotation :
    (during 7 [] booted).control.op ≠ none ∧
    (∀ m, booted.controlHead m = none) ∧
    (∀ d ∈ ([0, 3] : List (Fin 4)), (controlHeads [d] booted).control.op = none ∧
      (controlHeads [d] booted).controlHead ((controlHeads [d] booted).control.pointer + d) =
        some ⟨1, 7, []⟩ ∧
      ((controlHeads [d] booted).port d).resp.reserved.length +
        ((controlHeads [d] booted).port d).resp.filled.length < 16 ∧
      ∀ e : Fin 4, e < d → (controlHeads [d] booted).controlHead
        ((controlHeads [d] booted).control.pointer + e) = none) := by
  decide +kernel

/-! ## Witnesses: control operations -/

theorem executing {s : State} {op : Operation} {code : Byte} {n : Nat}
    (h : s.pwronN = true ∧ s.control.op = some op ∧ op.code = code ∧ op.args.length = n) :
    s.Executing op code n := h

theorem during_executing (code : Byte) (args : List Byte) (s : State) (h : s.pwronN = true) :
    (during code args s).Executing (opOf code args) code args.length :=
  ⟨h, rfl, rfl, rfl⟩

theorem witness_OperationEndsWithControlDone :
    (∀ c ∈ ([.getWindow, .resetTarget] : List Instr), c.operationCode? ≠ none) ∧
    (during 0x01 [] booted).control.op = some (opOf 0x01 []) ∧
    Instr.getWindow.operationCode? = some (opOf 0x01 []).code ∧
    ((opOf 0x00 []).code.toNat = 0 ∧ 17 < (opOf 0x12 []).code.toNat) ∧
    .control ∈ ((reservedSlots 1 (during 0x01 [] booted)).port 0).resp.reserved ∧
    .control ∉ ((during 0x01 [] booted).port 0).resp.reserved := by
  decide +kernel

theorem witness_ChecksBeforeTheOperationsOwn :
    (Instr.probe.operationCode? = some 0x02 ∧ (during 0x01 [] booted).pwronN = true ∧
      ∀ op, (during 0x01 [] booted).control.op = some op → op.code ≠ 0x02) ∧
    ((0x00 : Byte).toNat = 0 ∧ 17 < (0x12 : Byte).toNat ∧ 1 ≤ (0x01 : Byte).toNat ∧
      (0x11 : Byte).toNat ≤ 17) ∧
    (Instr.claimEdit.operationCode? = some (opOf 0x07 []).code ∧ 7 ≤ (opOf 0x07 []).code.toNat ∧
      (during 0x07 [] (State.powerOn ⟨15, 63, 0, 0⟩)).isAdmin 0 = false) ∧
    ((during 0x09 [] (planeIn (.editing 0 ⟨0, 50⟩) booted)).isAdmin 0 = true ∧
      (opOf 0x09 []).args.length ≠ argumentBytes 0x09 ∧ 9 ≤ (opOf 0x09 []).code.toNat ∧
      (opOf 0x0B []).code.toNat ≤ 11 ∧
      (during 0x09 [] (planeIn (.editing 0 ⟨0, 50⟩) booted)).planeState = .editing 0 ⟨0, 50⟩) ∧
    ((opOf 0x08 [1]).code.toNat < 9 ∧ 11 < (opOf 0x0C [1]).code.toNat ∧
      (opOf 0x0C [1]).args.length ≠ argumentBytes 0x0C) :=
  ⟨⟨by decide, by decide, fun op h => by cases h; decide⟩, by decide, by decide +kernel,
    by decide +kernel, by decide⟩

theorem witness_MapReadsReturnTheMap :
    (∀ args ∈ ([[2, 0], [1, 32], [0, 0], [1, 31]] : List (List Byte)),
      (during 0x01 args booted).Executing (opOf 0x01 args) 0x01 2) ∧
    (1 < (2 : Byte).toNat ∧ 32 ≤ (32 : Byte).toNat ∧ (31 : WindowIndex).val = (31 : Byte).toNat) ∧
    (∀ kind ∈ ([0, 1, 2] : List Byte),
      (during 0x02 (leBytes 6 0 ++ [kind]) booted).Executing (opOf 0x02 (leBytes 6 0 ++ [kind]))
        0x02 7) ∧
    (booted.lookup 0 false 0x1000000 1 = .noWindow ∧
      booted.lookup 0 true 0 1 = .hit (booted.routingOf 0 0) ∧
      (mapped fun w => { w with access := Vector.replicate 4 .none }).lookup 0 false 0 1 =
        .noAccess ((mapped fun w => { w with access := Vector.replicate 4 .none }).routingOf 0 0)) := by
  refine ⟨?_, by decide, ?_, by decide +kernel⟩
  · intro args h
    simp only [List.mem_cons, List.not_mem_nil, or_false] at h
    rcases h with rfl | rfl | rfl | rfl <;> exact during_executing _ _ _ rfl
  · intro kind h
    simp only [List.mem_cons, List.not_mem_nil, or_false] at h
    rcases h with rfl | rfl | rfl <;> exact during_executing _ _ _ rfl

theorem witness_StatusOperationsReadTheState :
    (during 0x03 [] booted).Executing (opOf 0x03 []) 0x03 0 ∧
    (∀ n ∈ ([0, 3, 4] : List Byte), (during 0x04 [n] booted).Executing (opOf 0x04 [n]) 0x04 1) ∧
    (4 ≤ (4 : Byte).toNat ∧ (3 : Master).val = (3 : Byte).toNat) ∧
    (∀ n ∈ ([0, 5, 6] : List Byte), (during 0x05 [n] booted).Executing (opOf 0x05 [n]) 0x05 1) ∧
    (6 ≤ (6 : Byte).toNat ∧ (5 : Target).val = (5 : Byte).toNat) ∧
    (during 0x06 [] booted).Executing (opOf 0x06 []) 0x06 0 ∧
    (((fencing (some ⟨[1], 0, 4⟩) booted).port 0).fence.slot = some ⟨[1], 0, 4⟩ ∧
      (booted.port 0).fence.slot = none) :=
  ⟨during_executing _ _ _ rfl, fun _ _ => during_executing _ _ _ rfl, by decide,
    fun _ _ => during_executing _ _ _ rfl, by decide, during_executing _ _ _ rfl, by decide +kernel⟩

/-- The states of the Plane Controller that the lease and switch statements distinguish, for M0. -/
def planeStates : List PlaneState :=
  [.steady, .editing 0 ⟨0, 50⟩, .editing 1 ⟨0, 50⟩, .holding 0 ⟨0, 5⟩, .holding 1 ⟨0, 5⟩, .draining]

theorem booted_admin : booted.isAdmin 0 = true := by decide

theorem notAdmin : (State.powerOn ⟨15, 63, 14, 0⟩).isAdmin 0 = false := by decide

/-- An operation of M0, an admin master or not, in every state of the Plane Controller. -/
theorem planeOperation (code : Byte) (args : List Byte) : ∀ ps ∈ planeStates,
    ((during code args (planeIn ps booted)).Executing (opOf code args) code args.length ∧
      (during code args (planeIn ps booted)).planeState = ps ∧
      (during code args (planeIn ps booted)).isAdmin (opOf code args).requester = true) ∧
    ((during code args (planeIn ps (State.powerOn ⟨15, 63, 14, 0⟩))).Executing (opOf code args) code
      args.length ∧
      (during code args (planeIn ps (State.powerOn ⟨15, 63, 14, 0⟩))).isAdmin
        (opOf code args).requester = false) :=
  fun _ _ => ⟨⟨during_executing _ _ _ rfl, rfl, booted_admin⟩, during_executing _ _ _ rfl, notAdmin⟩

theorem witness_ClaimEditByState : ∀ ps ∈ planeStates,
    (during 0x07 [] (planeIn ps booted)).Executing (opOf 0x07 []) 0x07 0 ∧
    (during 0x07 [] (planeIn ps booted)).planeState = ps ∧
    (during 0x07 [] (planeIn ps booted)).isAdmin 0 = true ∧
    (during 0x07 [] (planeIn ps (State.powerOn ⟨15, 63, 14, 0⟩))).isAdmin 0 = false :=
  fun ps h => ⟨(planeOperation 0x07 [] ps h).1.1, rfl, booted_admin, notAdmin⟩

theorem witness_ReleaseEditByState : ∀ ps ∈ planeStates,
    (during 0x08 [] (planeIn ps booted)).Executing (opOf 0x08 []) 0x08 0 ∧
    (during 0x08 [] (planeIn ps booted)).planeState = ps ∧
    (during 0x08 [] (planeIn ps booted)).isAdmin 0 = true ∧
    (during 0x08 [] (planeIn ps (State.powerOn ⟨15, 63, 14, 0⟩))).isAdmin 0 = false :=
  fun ps h => ⟨(planeOperation 0x08 [] ps h).1.1, rfl, booted_admin, notAdmin⟩

theorem witness_CancelSwitchByState : ∀ ps ∈ planeStates,
    (during 0x0C [] (planeIn ps booted)).Executing (opOf 0x0C []) 0x0C 0 ∧
    (during 0x0C [] (planeIn ps booted)).planeState = ps ∧
    (during 0x0C [] (planeIn ps booted)).isAdmin 0 = true ∧
    (during 0x0C [] (planeIn ps (State.powerOn ⟨15, 63, 14, 0⟩))).isAdmin 0 = false :=
  fun ps h => ⟨(planeOperation 0x0C [] ps h).1.1, rfl, booted_admin, notAdmin⟩

/-- Window entry records: a good one, and one that fails each check of R20 first (section 11.4). -/
def goodRecord : List Byte := [3, 12, 5, 2, 0xAA, 0xF3, 0, 0x10, 0, 0, 0, 0, 0, 0x20, 0, 0, 0, 0]

theorem test_putFailure_inOrder :
    booted.putFailure 31 goodRecord = none ∧
    booted.putFailure 32 goodRecord = some .index ∧
    booted.putFailure 0 (goodRecord.set 1 11) = some .size ∧
    booted.putFailure 0 (goodRecord.set 2 6) = some .field ∧
    booted.putFailure 0 (goodRecord.set 4 0x30) = some .field ∧
    booted.putFailure 0 (goodRecord.set 7 0x20) = none ∧
    booted.putFailure 0 (goodRecord.set 6 1) = some .baseAlign ∧
    booted.putFailure 0 (goodRecord.set 12 1) = some .xlateAlign ∧
    (State.powerOn ⟨15, 31, 15, 0⟩).putFailure 0 goodRecord = some .targetAbsent ∧
    booted.putFailure 0 (List.replicate 18 0) = none := by
  decide +kernel

theorem witness_EditsWriteTheStagedPlane :
    (∀ ps ∈ planeStates,
      (during 0x09 (0 :: goodRecord) (planeIn ps booted)).Executing (opOf 0x09 (0 :: goodRecord)) 0x09 19 ∧
      (during 0x0A [] (planeIn ps booted)).Executing (opOf 0x0A []) 0x0A 0 ∧
      (during 0x0A [] (planeIn ps booted)).isAdmin 0 = true ∧
      (during 0x0A [] (planeIn ps booted)).planeState = ps) ∧
    (during 0x09 (0 :: goodRecord) (planeIn (.editing 0 ⟨0, 50⟩) booted)).putFailure 0 goodRecord = none ∧
    (during 0x09 (32 :: goodRecord) (planeIn (.editing 0 ⟨0, 50⟩) booted)).putFailure 32 goodRecord =
      some .index :=
  ⟨fun ps h => ⟨(planeOperation 0x09 (0 :: goodRecord) ps h).1.1, (planeOperation 0x0A [] ps h).1.1,
    booted_admin, rfl⟩, by decide +kernel, by decide +kernel⟩

/-- EDITING by M0 with two overlapping enabled entries in the staged plane, at 30 and 31. -/
def overlapping : State :=
  let w : Window := { bootWindow Config.resetStraps with base := 0x1000000 }
  let p : Plane := (booted.planes[booted.other].set 30 w).set 31 w
  planeIn (.editing 0 ⟨0, 50⟩) { booted with planes := booted.planes.set booted.other p }

theorem witness_RequestSwitchRefusedInOrder :
    (∀ ps ∈ planeStates, ∀ args ∈ ([[0, 0, 0], [1, 1, 0], [1, 0xE8, 3], [1, 0, 0], [1, 0xE9, 3], [2, 0, 0]]
        : List (List Byte)),
      (during 0x0B args (planeIn ps booted)).Executing (opOf 0x0B args) 0x0B 3 ∧
      (during 0x0B args (planeIn ps booted)).isAdmin 0 = true ∧
      (during 0x0B args (planeIn ps booted)).planeState = ps) ∧
    ((0xE8 : Byte).toNat + 256 * (3 : Byte).toNat = 1000 ∧
      1000 < (0xE9 : Byte).toNat + 256 * (3 : Byte).toNat) ∧
    (overlapping.planes[overlapping.other][(30 : WindowIndex)].overlaps
        overlapping.planes[overlapping.other][(31 : WindowIndex)] = true ∧
      firstOverlap overlapping.planes[overlapping.other] = some (30, 31)) := by
  refine ⟨?_, by decide, by decide +kernel⟩
  intro ps hp args h
  simp only [List.mem_cons, List.not_mem_nil, or_false] at h
  rcases h with rfl | rfl | rfl | rfl | rfl | rfl <;>
    exact ⟨(planeOperation 0x0B _ ps hp).1.1, booted_admin, rfl⟩

/-- The pair that REQUEST_SWITCH names in `overlapping` is the first one. -/
theorem witness_RequestSwitchRefusedInOrder_first : ∀ i' j' : WindowIndex, i' < j' →
    overlapping.planes[overlapping.other][i'].overlaps overlapping.planes[overlapping.other][j'] = true →
      30 < i' ∨ (30 = i' ∧ 31 ≤ j') := by
  decide +kernel

theorem witness_RequestSwitchTaken :
    let s (n : Nat) (args : List Byte) : State :=
      during 0x0B args (planeIn (.editing 0 ⟨0, 50⟩) { mapped id with refCounts := Vector.replicate 2 n })
    (∀ n ∈ [0, 1], ∀ args ∈ ([[0, 0, 0], [1, 1, 0], [1, 0xE8, 3]] : List (List Byte)),
      (s n args).Executing (opOf 0x0B args) 0x0B 3 ∧ (s n args).isAdmin 0 = true ∧
      (s n args).planeState = .editing 0 ⟨0, 50⟩ ∧ NoOverlap (s n args).planes[(s n args).other]) ∧
    (s 0 [0, 0, 0]).refCounts[(s 0 [0, 0, 0]).live] = 0 ∧
    (s 1 [0, 0, 0]).refCounts[(s 1 [0, 0, 0]).live] ≠ 0 := by
  refine ⟨?_, by decide +kernel, by decide +kernel⟩
  intro n _ args h
  simp only [List.mem_cons, List.not_mem_nil, or_false] at h
  rcases h with rfl | rfl | rfl <;>
    exact ⟨during_executing _ _ _ rfl, booted_admin, rfl, noOverlap_mapped id (mapped id).other⟩

theorem witness_SettingsAreReplacedInRange :
    (∀ args : List Byte, ∀ code : Byte,
      (during code args booted).Executing (opOf code args) code args.length ∧
      (during code args booted).isAdmin 0 = true) ∧
    (1 ≤ (1 : Byte).toNat + 256 * (0 : Byte).toNat ∧ (0xE8 : Byte).toNat + 256 * (3 : Byte).toNat = 1000 ∧
      (0xE9 : Byte).toNat + 256 * (3 : Byte).toNat = 1001) ∧
    (4 ≤ (4 : Byte).toNat ∧ (3 : Byte).toNat < 4 ∧ (64 : Byte).toNat ≤ 64 ∧ 64 < (65 : Byte).toNat ∧
      (8 : Byte).toNat ≤ 8 ∧ 8 < (9 : Byte).toNat ∧ (250 : Byte).toNat + 256 * (0 : Byte).toNat ≤ 250 ∧
      250 < (251 : Byte).toNat + 256 * (0 : Byte).toNat) ∧
    (∀ d : DeadlineClass, (#v[10, 10, 1000000, 1000000] : Vector Nat 4)[d] < 2 ^ 32 ∧
      10 ≤ (#v[10, 10, 1000000, 1000000] : Vector Nat 4)[d] ∧
      (#v[10, 10, 1000000, 1000000] : Vector Nat 4)[d] ≤ 1000000) ∧
    (∀ d : DeadlineClass, (#v[10, 10, 10, 1000001] : Vector Nat 4)[d] < 2 ^ 32 ∧
      ((#v[10, 10, 10, 1000001] : Vector Nat 4)[d] ≤ 1000000 ∨ d = 3)) ∧
    (opOf 0x0F (leBytes 4 10 ++ leBytes 4 10 ++ leBytes 4 10 ++ leBytes 4 9)).args.length = 16 :=
  ⟨fun _ _ => ⟨during_executing _ _ _ rfl, booted_admin⟩, by decide, by decide, by decide, by decide, by decide⟩

theorem witness_ClearQuarantineOpensTheWay :
    (∀ n : Byte, ∀ st : PortState, (during 0x10 [n] (opened 3 st 8 booted)).Executing (opOf 0x10 [n]) 0x10 1 ∧
      (during 0x10 [n] (opened 3 st 8 booted)).isAdmin 0 = true) ∧
    (4 ≤ (4 : Byte).toNat ∧ (3 : Master).val = (3 : Byte).toNat) ∧
    ((during 0x10 [3] (opened 3 .quarantined 8 booted)).port 3).state = .quarantined ∧
    ((during 0x10 [3] (opened 3 .offline 8 booted)).port 3).state ≠ .quarantined ∧
    ((3 : Master) ≠ (opOf 0x10 [3]).requester ∧ (0 : Master).val = (0 : Byte).toNat ∧
      (0 : Master) = (opOf 0x10 [0]).requester) :=
  ⟨fun _ _ => ⟨during_executing _ _ _ rfl, booted_admin⟩, by decide, by decide +kernel, by decide +kernel,
    by decide⟩

/-- A requester that names itself stays QUARANTINED when it was quarantined after the take (R180, R189). -/
theorem test_clearQuarantine_ofItself :
    let s : State := (during 0x10 [0] booted).modPort 0 fun p => { p with state := .quarantined }
    ((s.after .clearQuarantine).port 0).state = .quarantined ∧
      (s.after .clearQuarantine).control.op = none := by
  decide +kernel

/-- Target port `t` in a state. -/
def targetIn (t : Target) (st : TargetState) (s : State) : State :=
  s.modTarget t fun p => { p with state := st }

theorem witness_ResetTargetPutsThePortDown :
    (∀ n : Byte, ∀ st : TargetState,
      (during 0x11 [n] (targetIn 5 st booted)).Executing (opOf 0x11 [n]) 0x11 1 ∧
      (during 0x11 [n] (targetIn 5 st booted)).isAdmin 0 = true) ∧
    (6 ≤ (6 : Byte).toNat ∧ (5 : Target).val = (5 : Byte).toNat) ∧
    (∀ st : TargetState, ((during 0x11 [5] (targetIn 5 st booted)).target 5).state = st) ∧
    ({ waitingPost with control := { waitingPost.control with op := some (opOf 0x11 [0]) } }.Executing
        (opOf 0x11 [0]) 0x11 1 ∧
      ({ waitingPost with control := { waitingPost.control with op := some (opOf 0x11 [0]) } }.target
        0).state = .up ∧
      { waitingPost with control := { waitingPost.control with op := some (opOf 0x11 [0]) } }.LaneLaw ∧
      { waitingPost with control := { waitingPost.control with op := some (opOf 0x11 [0]) } }.PromiseLaw) :=
  ⟨fun _ _ => ⟨during_executing _ _ _ rfl, booted_admin⟩, by decide, fun st => by cases st <;> decide +kernel,
    executing (by decide +kernel), by decide +kernel, laws_waitingPost.1, laws_waitingPost.2⟩

/-! ## Witnesses: the Plane Controller, lanes and target links -/

theorem witness_PlaneTimerExpiries : ∀ ps ∈ planeStates,
    (planeIn ps booted).pwronN = true ∧ (planeIn ps booted).planeState = ps :=
  fun _ _ => ⟨rfl, rfl⟩

/-- A reference count of plane 0, or of plane 1, with a decrement on its way. -/
def counting (p : PlaneId) (n : Nat) (ps : PlaneState) : State :=
  planeIn ps { booted with refCounts := booted.refCounts.set p n, decrements := booted.decrements.set p 1 }

theorem witness_PlaneCountDecrement :
    (booted.decrements[(0 : PlaneId)] = 0) ∧
    (0 < (counting 0 2 .steady).decrements[(0 : PlaneId)] ∧
      1 < (counting 0 2 .steady).refCounts[(0 : PlaneId)]) ∧
    (0 < (counting 0 1 .steady).decrements[(0 : PlaneId)] ∧
      (counting 0 1 .steady).planeState.phase ≠ .draining ∧
      (counting 0 1 .steady).planeState.phase ≠ .holding) ∧
    ((counting 1 1 .draining).refCounts[(1 : PlaneId)] = 1 ∧
      (counting 1 1 .draining).planeState.phase = .draining ∧ (1 : PlaneId) = (counting 1 1 .draining).other ∧
      0 < (counting 1 1 .draining).decrements[(1 : PlaneId)]) ∧
    ((counting 0 1 (.holding 0 ⟨0, 5⟩)).refCounts[(0 : PlaneId)] = 1 ∧
      (counting 0 1 (.holding 0 ⟨0, 5⟩)).planeState.phase = .holding ∧
      (0 : PlaneId) = (counting 0 1 (.holding 0 ⟨0, 5⟩)).live) := by
  decide +kernel

/-- A head that waited for HOLDING is routed in the event that leaves it, against the new plane (R35, R54). -/
theorem test_headResumes :
    let s : State := (unrouted (readOf 4 0x40) (counting 0 0 (.holding 1 ⟨0, 5⟩))).completeSwitch
    ((s.resumed [2, 0, 3, 1]).port 0).ingress.headPhase = .routed (s.routingOf 0 0x40) .read ∧
      (s.routingOf 0 0x40).plane = 1 ∧ (s.routingOf 0 0x40).generation = 1 := by
  decide +kernel

theorem witness_FlushReportEndsTheLease : ∀ ps ∈ planeStates,
    let s : State := { planeIn ps booted with flushReports := booted.flushReports.set 0 1 }
    s.pwronN = true ∧ 0 < s.flushReports[(0 : Master)] ∧ s.flushReports[(1 : Master)] = 0 ∧
      s.planeState = ps := by
  decide +kernel

theorem witness_LaneOffersItsFirstEligibleEntry :
    (∀ j, j ∈ waitingPost.lane 0 0 → (waitingPost.entry j).use ≠ none) ∧
    waitingPost.offer 0 0 = some 63 ∧ booted.offer 0 0 = none := by
  decide +kernel

theorem witness_GrantIssuesTheOfferedEntry :
    (booted.pwronN = true ∧ issuedRead.LaneLaw ∧ ∀ m, issuedRead.offer 0 m = none) ∧
    (waitingPost.pwronN = true ∧ waitingPost.LaneLaw ∧
      waitingPost.offer 0 (waitingPost.target 0).pointer = some 63 ∧
      (waitingPost.target 0).run < (waitingPost.limits (waitingPost.target 0).pointer).weight) ∧
    (let s := waitingPost.modTarget 0 (fun p => { p with run := 1 });
      s.LaneLaw ∧ (s.limits (s.target 0).pointer).weight ≤ (s.target 0).run ∧
      s.offer 0 ((s.target 0).pointer + 1 + 3) = some 63 ∧
      ∀ e : Fin 4, e < 3 → s.offer 0 ((s.target 0).pointer + 1 + e) = none) ∧
    (let s := waitingPost.modTarget 0 (fun p => { p with pointer := 3 });
      s.LaneLaw ∧ s.offer 0 (s.target 0).pointer = none ∧
      s.offer 0 ((s.target 0).pointer + 1 + 0) = some 63) :=
  ⟨⟨by decide, laws_issuedRead.1, by decide +kernel⟩, ⟨by decide, laws_waitingPost.1, by decide +kernel⟩,
    ⟨laws_waitingPost.1, by decide +kernel⟩, laws_waitingPost.1, by decide +kernel⟩

theorem witness_TargetLinkFoundAndLost :
    (∀ st : TargetState, (targetIn 5 st booted).pwronN = true ∧
      ((targetIn 5 st booted).target 5).state = st) ∧
    (waitingPost.pwronN = true ∧ (waitingPost.target 0).state = .up ∧ waitingPost.LaneLaw ∧
      waitingPost.PromiseLaw) ∧
    (issuedRead.pwronN = true ∧ (issuedRead.target 0).state = .up ∧ issuedRead.LaneLaw ∧
      issuedRead.PromiseLaw) :=
  ⟨fun st => ⟨rfl, by cases st <;> decide +kernel⟩,
    ⟨by decide, by decide +kernel, laws_waitingPost.1, laws_waitingPost.2⟩,
    by decide, by decide +kernel, laws_issuedRead.1, laws_issuedRead.2⟩

theorem witness_TReadyInUpIsACreditFault :
    booted.pwronN = true ∧ (booted.target 0).state = .up := by decide +kernel

theorem witness_CreditMessagesOfATarget :
    (booted.pwronN = true ∧ ((targetIn 5 .training booted).target 5).state = .training) ∧
    (1 ≤ (1 : Byte).toNat ∧ (32 : Byte).toNat ≤ 32 ∧ (0 : Byte).toNat = 0 ∧ 32 < (33 : Byte).toNat) ∧
    ((issuedRead.modTarget 0 fun p => { p with posted := ⟨2, 1, 1⟩, request := ⟨2, 1, 1⟩ }).pwronN = true ∧
      ((issuedRead.modTarget 0 fun p => { p with posted := ⟨2, 1, 1⟩, request := ⟨2, 1, 1⟩ }).target
        0).state = .up ∧
      (1 : Byte).toNat ≤ ((issuedRead.modTarget 0 fun p =>
        { p with posted := ⟨2, 1, 1⟩, request := ⟨2, 1, 1⟩ }).target 0).posted.inUse ∧
      ((issuedRead.modTarget 0 fun p =>
        { p with posted := ⟨2, 1, 1⟩, request := ⟨2, 1, 1⟩ }).target 0).request.inUse <
          (2 : Byte).toNat) := by
  decide +kernel

theorem witness_FenceTrackerTakesReports :
    let s (members : List OrtIndex) : State := (fencing (some ⟨members, 0, 4⟩) booted).modResp 0 fun r =>
      { r with reserved := [.head, .fence] }
    ((fencing none booted).port 0).fence.slot = none ∧
    (((s [1, 2]).port 0).fence.slot = some ⟨[1, 2], 0, 4⟩ ∧ (3 : OrtIndex) ∉ [1, 2]) ∧
    ((1 : OrtIndex) ∈ [1, 2] ∧ ([1, 2] : List OrtIndex).erase 1 ≠ []) ∧
    (((s [1]).port 0).fence.slot = some ⟨[1], 0, 4⟩ ∧ ([1] : List OrtIndex).erase 1 = [] ∧
      .fence ∈ ((s [1]).port 0).resp.reserved ∧ (s [1]).pwronN = true) := by
  decide +kernel

theorem answers {s : State} {t : Target} {tag : Byte} {i : OrtIndex} {u : OrtUse}
    (h : s.pwronN = true ∧ (s.target t).state = .up ∧ (s.entry i).use = some u ∧ u.phase.isIssued = true ∧
      u.target = t ∧ tag = targetTag i (s.entry i).reuse) : s.Answers t tag i u := h

theorem witness_CompletionRetiresTheEntry :
    (∀ kind ∈ [Kind.read, .writeNp],
      (entered 5 (useOf kind (.issued 20)) booted).Answers 0 21 5 (useOf kind (.issued 20)) ∧
      (useOf kind (.issued 20)).kind ≠ .writeP ∧ (useOf kind (.issued 20)).responseOwed = true ∧
      .ort 5 ∈ ((entered 5 (useOf kind (.issued 20)) booted).port 0).resp.reserved) ∧
    (List.replicate 64 (0 : Byte)).length = (useOf .read (.issued 20)).length ∧
    (List.replicate 256 (0 : Byte)).length ≤ 256 :=
  ⟨by
    intro kind h
    simp only [List.mem_cons, List.not_mem_nil, or_false] at h
    rcases h with rfl | rfl <;> exact ⟨answers (by decide +kernel), by decide +kernel⟩,
    by decide +kernel, by decide +kernel⟩

theorem witness_PostedAnswersRetireTheEntry : ∀ report : Bool,
    let u : OrtUse := { useOf .writeP (.issued 20) with failureReporting := report }
    (entered 63 u booted).Answers 0 253 63 u ∧ u.kind = .writeP ∧ u.failureReporting = report := by
  intro report
  cases report <;> exact ⟨answers (by decide +kernel), by decide +kernel⟩

theorem witness_RetryBacksOffOrFails :
    (∀ n ∈ [0, 3, 4], let u : OrtUse := { useOf .read (.issued 20) with retries := n }
      (entered 5 u booted).Answers 0 21 5 u ∧ u.phase = .issued 20 ∧
      .ort 5 ∈ ((entered 5 u booted).port u.master).resp.reserved) ∧
    (3 < ((issuedRead.window 0 0).retryBudget.val) ∧ (issuedRead.window 0 0).retryBudget.val ≤ 4) ∧
    ((issuedRead.setLane 0 0 (List.replicate 15 1)).lane 0 0).length < 16 ∧
    16 ≤ ((issuedRead.setLane 0 0 (List.replicate 16 1)).lane 0 0).length := by
  refine ⟨?_, by decide +kernel, by decide +kernel, by decide +kernel⟩
  intro n h
  simp only [List.mem_cons, List.not_mem_nil, or_false] at h
  rcases h with rfl | rfl | rfl <;> exact ⟨answers (by decide +kernel), by decide +kernel⟩

theorem witness_StaleLapsedAndMalformedAnswers :
    (∀ st : TargetState, ((targetIn 0 st issuedRead).target 0).state = st ∧ issuedRead.pwronN = true) ∧
    ((issuedRead.entry (targetTagIndex 24)).use = none) ∧
    ((issuedRead.entry (targetTagIndex 20)).use = some (useOf .read (.issued 20)) ∧
      (issuedRead.entry (targetTagIndex 20)).reuse ≠ targetTagReuse 20) ∧
    ((issuedRead.entry (targetTagIndex 21)).reuse = targetTagReuse 21 ∧
      (useOf .read (.issued 20)).target ≠ 1 ∧
      (useOf .read (.issued 20)).phase.isIssued = true ∧ (Kind.read == .writeP) = false) ∧
    ((useOf .read (.waiting 20)).phase.inLane = true) ∧
    ((entered 5 (useOf .writeP (.lapsed 40)) booted).entry (targetTagIndex 21)).use =
      some (useOf .writeP (.lapsed 40)) ∧
    (useOf .writeP (.lapsed 40)).phase.isLapsed = true ∧
    (∀ frame ∈ ([[0x20], [0x21, 1], [0x22], [], [0x77]] : List (List Byte)),
      decodeTargetFrame 0 frame = .malformedTargetFrame 0 frame) :=
  ⟨fun st => ⟨by cases st <;> decide +kernel, by decide⟩, by decide +kernel⟩

/-! ## Witnesses: timers, the transmitter and the laws -/

theorem witness_EntryTimersExpire :
    (booted.pwronN = true ∧ (booted.entry 5).use = none) ∧
    (∀ ph ∈ ([.waiting 20, .issued 20, .backoff 20 8, .lapsed 40] : List OrtPhase),
      ((entered 5 (useOf .writeP ph) booted).entry 5).use = some (useOf .writeP ph)) ∧
    ((issuedRead.entry 5).use = some (useOf .read (.issued 20)) ∧
      .ort 5 ∈ (issuedRead.port 0).resp.reserved) ∧
    ((OrtPhase.waiting 20).deadline? = some 20 ∧ (OrtPhase.waiting 20).inLane = true ∧
      (OrtPhase.waiting 20).isLapsed = false ∧ (OrtPhase.waiting 20).isBackoff = false) := by
  decide +kernel

/-- A response waits, no response credit is held, and the stall timer has run for 20 ms. -/
def stalled (elapsed : Nat) (s : State) : State :=
  s.modResp 0 fun r =>
    { r with filled := [.writeAck 1], credits := 0, stallElapsed := elapsed, stallLimit := 20 }

theorem witness_StallExpiryQuarantinesThePort :
    (issuedRead.pwronN = true ∧ issuedRead.LaneLaw ∧ (issuedRead.port 0).resp.credits ≠ 0) ∧
    ((stalled 20000 issuedRead).LaneLaw ∧ ((stalled 20000 issuedRead).port 0).state = .active ∧
      ((stalled 20000 issuedRead).port 0).resp.credits = 0 ∧
      ((stalled 20000 issuedRead).port 0).resp.filled ≠ [] ∧
      ((stalled 20000 issuedRead).port 0).resp.stallElapsed =
        1000 * ((stalled 20000 issuedRead).port 0).resp.stallLimit) :=
  ⟨⟨by decide, laws_issuedRead.1, by decide +kernel⟩, laws_issuedRead.1, by decide +kernel⟩

theorem witness_SendEventSendsTheFirstPresent :
    let s (owed : Nat) (n : List Notice) (f : List Response) (c : Nat) (st : PortState) : State :=
      (opened 0 st (8 - owed) booted).modResp 0 fun r => { r with notices := n, filled := f, credits := c }
    (((s 1 [] [] 0 .quarantined).port 0).state ≠ .offline ∧
      0 < ((s 1 [] [] 0 .quarantined).port 0).ingress.dataOwed) ∧
    (((s 0 [.planeSettled 1] [.writeAck 1] 1 .active).port 0).ingress.dataOwed = 0 ∧
      ((s 0 [.planeSettled 1] [.writeAck 1] 1 .active).port 0).ingress.controlOwed = 0 ∧
      0 < ((s 0 [.planeSettled 1] [.writeAck 1] 1 .active).port 0).resp.credits ∧
      ((s 0 [.planeSettled 1] [.writeAck 1] 1 .active).port 0).resp.notices = [.planeSettled 1]) ∧
    (((s 0 [] [.writeAck 1] 1 .active).port 0).resp.notices = [] ∧
      ((s 0 [] [.writeAck 1] 1 .active).port 0).resp.filled = [.writeAck 1]) ∧
    ((s 0 [] [] 1 .offline).port 0).state = .offline ∧
    ((s 0 [] [.writeAck 1] 0 .active).port 0).resp.credits = 0 ∧
    (s 0 [] [] 1 .active).pwronN = true := by
  decide +kernel

/-- Bytes written out from sections 11.2 to 11.4. -/
theorem test_sentBytes :
    (Notice.postedFail 9 2 0x010203040506 0x0140 .targetLost).bytes =
      [0x90, 5, 9, 2, 10, 0, 0x40, 0x01, 6, 5, 4, 3, 2, 1, 0, 0] ∧
    (Notice.targetDown 4 .resetTarget .training).bytes =
      [0x90, 7, 4, 1, 1, 0, 0, 0, 0, 0, 0, 0, 0, 0, 0, 0] ∧
    (Response.readDone 9 .ok [0xAA, 0xBB]).bytes = [0x81, 9, 0, 0, 2, 0, 0xAA, 0xBB] ∧
    (Response.controlDone 3 0x0A .ok (.reverted 0x01020304)).bytes =
      [0x85, 3, 0x0A, 0, 4, 0, 4, 3, 2, 1] ∧
    requestBytes 5 1 (useOf .read (.waiting 20)) =
      [0x01, 21, 64, 0, 0x40, 0, 0, 0, 0, 0, 0, 0] := by
  decide +kernel

theorem reset_entry (i : OrtIndex) : State.reset.entry i = { reuse := 0, use := none } := by
  simp [State.reset, State.powerOn, State.entry, OrtEntry.powerOn]

theorem reset_port (m : Master) : State.reset.port m = MasterPort.powerOn := by
  simp [State.reset, State.powerOn, State.port]

theorem reset_target (t : Target) : State.reset.target t = TargetPort.powerOn Config.resetStraps.tpresent[t] := by
  simp [State.reset, State.powerOn, State.target]

/-- Reset with a LINK_UP of M0 at the front of the queue. -/
def linking : State := { State.reset with pending := [.linkUp 0 4] }

theorem step_linking : ∃ t, step linking = .next t := ⟨_, rfl⟩

/-- A READ head that waits UNROUTED in HOLDING, with a FENCE about to arrive. -/
def waiting : State :=
  { (unrouted (readOf 1 0) (planeIn (.holding 1 ⟨0, 5⟩) booted)).modIngress 0 fun g =>
      { g with controlOutstanding := 2 } with pending := [.fence 0 1] }

theorem witness_EveryStepKeepsIngressCreditsAndRoutedHeads :
    waiting.IngressLaw ∧ waiting.HeadLaw ∧ (waiting.port 0).ingress.headPhase = .unrouted ∧
      ∃ t, step waiting = .next t := by
  refine ⟨?_, fun m q hq _ => ?_, by decide +kernel, _, rfl⟩
  · unfold State.IngressLaw MasterPort.IngressLaw
    decide +kernel
  · have heads : ∀ m, waiting.headRequest m = if m = 0 then some (readReq 1 0) else none := by
      decide +kernel
    rw [heads] at hq
    split at hq
    · cases hq
      decide +kernel
    · cases hq

theorem witness_EveryStepKeepsCompletionSlots :
    linking.SlotLaw ∧ linking.PromiseLaw ∧ ∃ t, step linking = .next t :=
  ⟨fun m => by
    rw [show linking.port m = MasterPort.powerOn from reset_port m]
    simp [MasterPort.SlotLaw, MasterPort.powerOn, ResponseUnit.powerOn, ResponseUnit.slotsInUse],
    promiseLaw_of_check (by decide +kernel), step_linking⟩

/-- The cases of R139 meet at 7 records held. -/
theorem witness_EveryStepKeepsNoticesAndCounts_handOut :
    let p (st : PortState) (q : List Notice) : MasterPort :=
      { ((opened 0 st 8 booted).port 0) with
        resp := { ((opened 0 st 8 booted).port 0).resp with notices := q } }
    let seven : List Notice := List.replicate 7 (.planeSettled 1)
    ((p .offline []).state ≠ .active ∧ (p .active []).state = .active) ∧
    (p .active (seven ++ [.overflow 65535])).resp.notices = seven ++ [.overflow 65535] ∧
    ((p .active (seven.drop 1)).resp.notices.length < 7 ∧ 7 ≤ (p .active seven).resp.notices.length ∧
      ((p .active seven).notify (.planeSettled 2)).resp.notices = seven ++ [.overflow 1]) ∧
    ((p .active seven).resp.notices.getLast? = some (.planeSettled 1) ∧
      (p .active (seven.drop 1)).resp.notices.getLast? = some (.planeSettled 1)) := by
  decide +kernel

theorem witness_EveryStepKeepsNoticesAndCounts :
    linking.NoticeLaw ∧ linking.ResponseCreditLaw ∧ linking.SaturationLaw ∧
      ∃ t, step linking = .next t := by
  refine ⟨fun m => ?_, fun m => ?_, ⟨fun m => ?_, fun t => ?_⟩, step_linking⟩
  · rw [show linking.port m = MasterPort.powerOn from reset_port m]
    simp [MasterPort.NoticeLaw, NoticeQueueLaw, MasterPort.powerOn, ResponseUnit.powerOn]
  · rw [show linking.port m = MasterPort.powerOn from reset_port m]
    simp [MasterPort.ResponseCreditLaw, MasterPort.powerOn, ResponseUnit.powerOn]
  · rw [show linking.port m = MasterPort.powerOn from reset_port m]
    simp [MasterPort.powerOn, FenceTracker.powerOn]
  · rw [show linking.target t = _ from reset_target t]
    simp [TargetPort.powerOn]

theorem witness_EveryStepKeepsTargetCredits :
    linking.TargetCreditLaw ∧ ∃ t, step linking = .next t :=
  ⟨fun t => by
    rw [show linking.target t = _ from reset_target t]
    simp [TargetPort.CreditLaw, TargetPort.powerOn, Credits.Balanced, Credits.zero], step_linking⟩

theorem witness_EveryStepKeepsTheLivePlaneFreeOfOverlap :
    linking.OverlapLaw ∧ ∃ t, step linking = .next t :=
  ⟨⟨noOverlap_mapped id 0, fun h => by cases h⟩, step_linking⟩

theorem witness_EveryStepKeepsHolderAndSettings :
    linking.HolderLaw ∧ linking.SettingsLaw ∧ ∃ t, step linking = .next t := by
  refine ⟨fun m h => (by cases h), ?_, step_linking⟩
  unfold State.SettingsLaw
  decide +kernel

theorem witness_EveryStepKeepsPlaneCounts :
    linking.RoutingLaw ∧ linking.CountLaw ∧ ∃ t, step linking = .next t := by
  refine ⟨fun m r k h => ?_, ?_, step_linking⟩
  · rw [show linking.port m = MasterPort.powerOn from reset_port m] at h
    cases h
  · unfold State.CountLaw
    decide +kernel

theorem witness_EveryStepKeepsTableAndLanes :
    linking.HeldLaw ∧ linking.PoolLaw ∧ linking.LaneLaw ∧ ∃ t, step linking = .next t := by
  refine ⟨?_, ⟨by decide +kernel, fun i u h => ?_⟩, laneLaw_of_check (by decide +kernel), step_linking⟩
  · unfold State.HeldLaw
    decide +kernel
  · rw [show linking.entry i = _ from reset_entry i] at h
    cases h

theorem witness_EveryStepKeepsTagsDistinct : linking.TagLaw ∧ ∃ t, step linking = .next t := by
  refine ⟨⟨fun m tag i j h => ?_, fun m q r k h => ?_, fun m _ => ?_⟩, step_linking⟩
  · rw [show linking.entry i = _ from reset_entry i] at h
    cases h
  · rw [show linking.port m = MasterPort.powerOn from reset_port m] at h
    cases h
  · rw [show linking.port m = MasterPort.powerOn from reset_port m]
    rfl

theorem witness_WindowInFlightIsUnchanged :
    let s : State := { waitingPost with pending := [.fence 0 1] }
    s.CountLaw ∧ (s.entry 63).use = some (useOf .writeP (.waiting 20)) ∧
      (useOf .writeP (.waiting 20)).phase.counted = true ∧
      ∃ t, step s = .next t ∧ (t.entry 63).use ≠ none := by
  refine ⟨?_, by decide +kernel, by decide, _, rfl, by decide +kernel⟩
  unfold State.CountLaw
  decide +kernel

theorem witness_LivePlaneChangesOnlyAsAWhole :
    (∀ a b c d, linking.pending.head? ≠ some (.powerOn a b c d)) ∧
    linking.pending.head? ≠ some .pwronLow ∧ ∃ t, step linking = .next t :=
  ⟨fun _ _ _ _ h => (by cases h), by decide, step_linking⟩

theorem witness_FramesDecodeToTheirPackets :
    ((Instr.write 3 31 256 0xFFFFFFFFFFFF (List.replicate 256 1)).wf = true ∧
      (Instr.write 3 31 256 0xFFFFFFFFFFFF (List.replicate 256 1)).masterPort? = some 3 ∧
      (encodeMasterFrame (.write 3 31 256 0xFFFFFFFFFFFF (List.replicate 256 1))).isSome = true) ∧
    ((Instr.tRetry 5 255).wf = true ∧ encodeTargetFrame (.tRetry 5 255) = some [0x25, 255]) := by
  decide +kernel

end Sys2Proof.Tests
end

/-! PROOFS. RELEASE_EDIT in execution: one lemma for each way it completes (R26), and the statement they
make up. The first two cases of an admin master are the holder's, the third is every other master's. -/

namespace Sys2Proof.Machine

section ReleaseEdit

variable {op : Operation} {s : State} {t : Timer}

/-- The command runs the operation of its name. -/
theorem exec_releaseEdit (s : State) : exec .releaseEdit s = execReleaseEdit s := rfl

/-- NOT_ADMIN comes before the rule of RELEASE_EDIT reads the Plane Controller's state (R181). -/
theorem exec_releaseEdit_notAdmin (h : s.Executing op 0x08 0) (hr : s.isAdmin op.requester = false) :
    exec .releaseEdit s = .next (s.finish op .notAdmin s.refusal) :=
  (exec_releaseEdit s).trans (carryOut_notAdmin (e := ⟨opReleaseEdit, true, 0⟩) h rfl rfl hr)

/-- The holder gives up its lease in EDITING; the staged plane is not touched (R26). -/
theorem exec_releaseEdit_editing (h : s.Executing op 0x08 0) (ha : s.isAdmin op.requester = true)
    (hp : s.planeState = .editing op.requester t) :
    exec .releaseEdit s =
      .next (State.finish { s with planeState := .steady } op .ok (.released s.generation)) := by
  rw [exec_releaseEdit]
  refine (carryOut_own (e := ⟨opReleaseEdit, true, 0⟩) h rfl rfl fun _ => ha).trans ?_
  simp only [hp, if_true]

/-- A held switch goes on: its holder must cancel it first (R26, R37). -/
theorem exec_releaseEdit_holding (h : s.Executing op 0x08 0) (ha : s.isAdmin op.requester = true)
    (hp : s.planeState = .holding op.requester t) :
    exec .releaseEdit s = .next (s.finish op .busy s.refusal) := by
  rw [exec_releaseEdit]
  refine (carryOut_own (e := ⟨opReleaseEdit, true, 0⟩) h rfl rfl fun _ => ha).trans ?_
  simp only [hp, if_true]

/-- An admin master without the lease is refused in every state: in STEADY and DRAINING there is no holder,
in EDITING and HOLDING the holder is another master (R26). -/
theorem exec_releaseEdit_noLease (h : s.Executing op 0x08 0) (ha : s.isAdmin op.requester = true)
    (hn : s.planeState.holder ≠ some op.requester) :
    exec .releaseEdit s = .next (s.finish op .noLease s.refusal) := by
  rw [exec_releaseEdit]
  refine (carryOut_own (e := ⟨opReleaseEdit, true, 0⟩) h rfl rfl fun _ => ha).trans ?_
  cases hp : s.planeState with
  | steady => rfl
  | draining => rfl
  | editing k _ =>
    have hk : k ≠ op.requester := by simpa [hp, PlaneState.holder] using hn
    simp only [hk, if_false]
  | holding k _ =>
    have hk : k ≠ op.requester := by simpa [hp, PlaneState.holder] using hn
    simp only [hk, if_false]

end ReleaseEdit

/-- Settles O24, by the requester's role and then by whether it holds the lease. -/
theorem releaseEditByState : Obligations.ReleaseEditByState := fun _ _ h =>
  ⟨exec_releaseEdit_notAdmin h, fun ha =>
    ⟨fun _ => exec_releaseEdit_editing h ha, fun _ => exec_releaseEdit_holding h ha,
      exec_releaseEdit_noLease h ha⟩⟩

end Sys2Proof.Machine

/-! PROOFS. A credit fault of a target port: T_READY in UP is one (R119), and GET_TARGET_STATUS shows the
count it leaves (R184). -/

namespace Sys2Proof.Machine

section CreditFault

variable (s : State) (t : Target)

/-- GET_TARGET_STATUS reports the port's own count (R184). -/
theorem State.targetStatus_creditFaults :
    (s.targetStatus t).creditFaults = (s.target t).creditFaults := rfl

/-- A credit fault raises the port's count by one, saturating (R115). -/
theorem State.target_countCreditFault_creditFaults :
    ((s.countCreditFault t).target t).creditFaults = min ((s.target t).creditFaults + 1) 65535 := by
  simp [State.countCreditFault, satInc]

/-- The status read after a credit fault shows the raised count (R115, R184). -/
theorem State.targetStatus_countCreditFault :
    ((s.countCreditFault t).targetStatus t).creditFaults =
      min ((s.target t).creditFaults + 1) 65535 :=
  ((s.countCreditFault t).targetStatus_creditFaults t).trans (s.target_countCreditFault_creditFaults t)

end CreditFault

/-- In UP the two counts of a T_READY play no part: it is a credit fault whatever they are (R119). -/
theorem exec_tReady_up {s : State} {t : Target} (posted request : Byte) (hp : s.pwronN = true)
    (hu : (s.target t).state = .up) :
    exec (.tReady t posted request) s = .next (s.countCreditFault t) := by
  have arm : exec (.tReady t posted request) s = execTReady t posted request s := rfl
  rw [arm, execTReady, takeEvent_on hp]
  simp only [hu]

/-- Settles O38: a T_READY in UP is one credit fault and nothing else, and the status read shows it. -/
theorem tReadyInUpIsACreditFault : Obligations.TReadyInUpIsACreditFault :=
  fun t posted request s hp hu => ⟨exec_tReady_up posted request hp hu, s.targetStatus_countCreditFault t⟩

end Sys2Proof.Machine

/-! PROOFS. What one event of the part can do, said once: the moves it is made of, each under the conditions
that the meanings check before making it. The laws of Safety.lean are then shown move by move. -/

namespace Sys2Proof.Machine

/-! ### The moves -/

/-- A FENCE, READ or WRITE head takes the slot it was granted (R58, R68, R136). -/
def State.grantSlot (s : State) (m : Master) : State :=
  (s.modResp m fun r => r.reserve .head).modIngress m fun g => { g with headSlot := true }

/-- The Control Unit takes the control head of master `m` (R178). -/
def State.takeOperation (s : State) (m : Master) (pkt : ControlPacket) : State :=
  let s := (s.modResp m fun r => r.reserve .control).modIngress m Ingress.controlLeaves
  { s with control :=
      { s.control with op := some ⟨m, pkt.tag, pkt.op, pkt.args⟩, pointer := m + 1 } }

/-- The Plane Controller has taken a decrement of plane `p` (R39). -/
def State.decremented (s : State) (p : PlaneId) : State :=
  ({ s with decrements := s.decrements.set p (s.decrements[p] - 1) }).setCount p (s.refCounts[p] - 1)

theorem State.takeDecrement_eq (s : State) (p : PlaneId) : s.takeDecrement p =
    if s.refCounts[p] - 1 = 0 then (s.decremented p).countZero p else s.decremented p := rfl

@[simp] theorem State.decremented_live (s : State) (p : PlaneId) : (s.decremented p).live = s.live := rfl

@[simp] theorem State.decremented_other (s : State) (p : PlaneId) : (s.decremented p).other = s.other := rfl

@[simp] theorem State.decremented_planeState (s : State) (p : PlaneId) :
    (s.decremented p).planeState = s.planeState := rfl

@[simp] theorem State.decremented_planes (s : State) (p : PlaneId) :
    (s.decremented p).planes = s.planes := rfl

@[simp] theorem State.decremented_generation (s : State) (p : PlaneId) :
    (s.decremented p).generation = s.generation := rfl

theorem State.decremented_refCounts (s : State) (p : PlaneId) :
    (s.decremented p).refCounts[p] = s.refCounts[p] - 1 := by
  rw [State.decremented, State.setCount_refCounts, if_pos rfl]

/-- The two saturating counts of a target port lie in their range (R115). -/
def TargetPort.Saturated (p : TargetPort) : Prop := p.stale ≤ 65535 ∧ p.creditFaults ≤ 65535

/-- The counts of a Fence Tracker lie in their range (R152). -/
def FenceTracker.Saturated (f : FenceTracker) : Prop :=
  f.postedFailures ≤ 65535 ∧ ∀ x, f.slot = some x → x.failures ≤ 65535

/-- One indivisible part of an event that leaves the Plane Controller's state, the planes and the
generation alone. -/
inductive Move : State → State → Prop
  | pass (s : State) (d : Nat) : Move s (s.passTime d)
  | flushReports (s : State) (v : Vector Nat 4) : Move s { s with flushReports := v }
  | announcements (s : State) (v : Vector (Vector Nat 6) 4) : Move s { s with announcements := v }
  | putMaster (s : State) (m : Master) (o : LinkOutput) : Move s (s.putMaster m o)
  | putTarget (s : State) (t : Target) (o : LinkOutput) : Move s (s.putTarget t o)
  | fault (s : State) (m : Master) : Move s (s.fault m)
  | notify (s : State) (m : Master) (n : Notice) : Move s (s.notify m n)
  | notifyAll (s : State) (who : Master → Bool) (n : Notice) : Move s (s.notifyAll who n)
  | takeData (s : State) (m : Master) (pkt : DataPacket) (ha : (s.port m).state = .active)
      (ho : (s.port m).ingress.dataOutstanding ≠ 0) : Move s (s.takeData m pkt)
  | takeControl (s : State) (m : Master) (pkt : ControlPacket) (ha : (s.port m).state = .active)
      (ho : (s.port m).ingress.controlOutstanding ≠ 0) :
      Move s (s.modIngress m fun g => g.takeControl pkt)
  | returnData (s : State) (m : Master) (ha : (s.port m).state ≠ .offline)
      (ho : (s.port m).ingress.dataOutstanding ≠ 0) : Move s (s.modIngress m Ingress.returnData)
  | returnControl (s : State) (m : Master) (ha : (s.port m).state ≠ .offline)
      (ho : (s.port m).ingress.controlOutstanding ≠ 0) :
      Move s (s.modIngress m Ingress.returnControl)
  | sendCredits (s : State) (m : Master) : Move s (s.modIngress m Ingress.sendCredits)
  | openPort (s : State) (m : Master) (n : Nat) (ho : (s.port m).state = .offline)
      (hn : 1 ≤ n ∧ n ≤ 16) : Move s (s.modPort m fun p => s.openPort m n p)
  | credit (s : State) (m : Master) (n : Nat) :
      Move s (s.modResp m fun r => { r with credits := r.credits + min n r.inUse })
  | sendNotice (s : State) (m : Master) :
      Move s (s.modResp m fun r => s.spendCredit m { r with notices := r.notices.tail })
  | sendResponse (s : State) (m : Master) :
      Move s (s.modResp m fun r => s.spendCredit m { r with filled := r.filled.tail })
  | flushPort (s : State) (m : Master) (d : PortState) (ha : (s.port m).state = .active)
      (hd : d ≠ .active) : Move s (s.flushPort m d)
  | exitQuarantine (s : State) (m : Master) (hq : (s.port m).state = .quarantined) :
      Move s (s.exitQuarantine m)
  | route (s : State) (m : Master) (q : Request) (hq : s.headRequest m = some q) :
      Move s (s.setHeadPhase m (s.routePhase m q))
  | grantSlot (s : State) (m : Master) (pkt : DataPacket) (hp : s.dataHead m = some pkt)
      (hf : (s.port m).resp.hasFree = true) : Move s (s.grantSlot m)
  | refuse (s : State) (m : Master) (q : Request) (st : Status) (hq : s.headRequest m = some q) :
      Move s ((s.fill m .head (q.refusal st)).dataLeaves m)
  | refuseFree (s : State) (m : Master) (q : Request) (st : Status)
      (hq : s.headRequest m = some q) (hf : (s.port m).resp.hasFree = true)
      (hs : (s.port m).ingress.headSlot = false) :
      Move s ((s.modResp m fun r => r.fillFree (q.refusal st)).dataLeaves m)
  | admission (s : State) (m : Master) (q : Request) (r : Routing) (k : Kind) (i : OrtIndex)
      (hq : s.headRequest m = some q) (hs : (s.port m).ingress.headSlot = true)
      (hp : (s.port m).ingress.headPhase = .routed r k) (hg : r.generation = s.generation)
      (hi : (s.entry i).use = none) (hr : s.hasRoom m q r = true) : Move s (s.admitHead m q r k i)
  | takeFence (s : State) (m : Master) (tag : Tag) (hp : s.dataHead m = some (.fence tag))
      (hs : (s.port m).ingress.headSlot = true) : Move s (s.takeFence m tag)
  | finishFence (s : State) (m : Master) (f : Fence) : Move s (s.finishFence m f)
  | setFence (s : State) (m : Master) (f : FenceTracker)
      (ho : f.slot ≠ none → (s.port m).fence.slot ≠ none)
      (hs : (s.port m).fence.Saturated → f.Saturated) : Move s (s.setFence m f)
  | takeOperation (s : State) (m : Master) (pkt : ControlPacket) (hp : s.controlHead m = some pkt)
      (hf : (s.port m).resp.hasFree = true) : Move s (s.takeOperation m pkt)
  | finish (s : State) (op : Operation) (code : ResultCode) (record : ResultRecord) :
      Move s (s.finish op code record)
  | setLeasePeriod (s : State) (p : Nat) (hp : 1 ≤ p ∧ p ≤ 1000) :
      Move s { s with control := { s.control with leasePeriod := p } }
  | setLimits (s : State) (m : Master) (l : Limits) (hq : 1 ≤ l.quota ∧ l.quota ≤ 64)
      (hw : 1 ≤ l.weight ∧ l.weight ≤ 8) (hs : 1 ≤ l.stall ∧ l.stall ≤ 250) :
      Move s { s with control := { s.control with limits := s.control.limits.set m l } }
  | setDeadlines (s : State) (v : Vector Nat 4)
      (hv : ∀ d : DeadlineClass, 10 ≤ v[d] ∧ v[d] ≤ 1000000) :
      Move s { s with control := { s.control with deadlines := v } }
  | retire (s : State) (i : OrtIndex) (u : OrtUse) (hu : (s.entry i).use = some u)
      (hc : u.phase.counted = true) : Move s (s.retire i u)
  | lapse (s : State) (i : OrtIndex) (u : OrtUse) (hu : (s.entry i).use = some u)
      (hp : u.phase.isIssued = true) : Move s (s.lapse i u)
  | clearEntry (s : State) (i : OrtIndex) (u : OrtUse) (hu : (s.entry i).use = some u)
      (hc : u.phase.counted = false) : Move s (s.clearEntry i u)
  | respond (s : State) (i : OrtIndex) (u : OrtUse) (st : Status) (data : List Byte)
      (hn : ∀ v, (s.entry i).use = some v → v.responseOwed = false) : Move s (s.respond i u st data)
  | backOff (s : State) (i : OrtIndex) (u : OrtUse) (d b n : Nat) (hu : (s.entry i).use = some u)
      (hp : u.phase = .issued d) (hl : (s.lane u.target u.master).length < 16) :
      Move s ((s.setLane u.target u.master (i :: s.lane u.target u.master)).setUse i
        (some { u with phase := .backoff d b, retries := n }))
  | endBackoff (s : State) (i : OrtIndex) (u : OrtUse) (d b : Nat)
      (hu : (s.entry i).use = some u) (hp : u.phase = .backoff d b) :
      Move s (s.setUse i (some { u with phase := .waiting d }))
  | issue (s : State) (t : Target) (m : Master) (i : OrtIndex) (run d : Nat) (u : OrtUse)
      (hu : (s.entry i).use = some u) (hp : u.phase = .waiting d) (hl : i ∈ s.lane t m)
      (hc : 1 ≤ ((s.target t).creditsFor u.kind).held) : Move s (s.issue t m i run u)
  | modTarget (s : State) (t : Target) (f : TargetPort → TargetPort)
      (hc : (s.target t).CreditLaw → (f (s.target t)).CreditLaw)
      (hs : (s.target t).Saturated → (f (s.target t)).Saturated) : Move s (s.modTarget t f)
  | decrement (s : State) (p : PlaneId) (hd : s.decrements[p] ≠ 0) :
      Move s (s.decremented p)

/-- The Plane Controller's state changes, and the planes and the generation do not. -/
inductive StateMove : State → State → Prop
  | mk (s : State) (ps : PlaneState) (hd : s.planeState ≠ .draining)
      (hh : ∀ m, ps.holder = some m → s.planeState.holder = some m ∨ s.isAdmin m = true)
      (ho : ps.isHolding = true → s.planeState.isHolding = true ∨ NoOverlap s.planes[s.other]) :
      StateMove s { s with planeState := ps }

/-- One indivisible part of an event in which the Plane Controller's state, the planes or the generation
change. -/
inductive PlaneMove : State → State → Prop
  | state {s t : State} (h : StateMove s t) : PlaneMove s t
  | edit (s : State) (p : Plane) (hh : s.planeState.isHolding = false) :
      PlaneMove s { s with planes := s.planes.set s.other p }
  | immediateSwitch (s : State) (ho : NoOverlap s.planes[s.other])
      (hh : s.planeState.isHolding = false) : PlaneMove s s.immediateSwitch
  | reconcile (s : State) (hz : s.refCounts[s.other] = 0) : PlaneMove s s.reconcile
  | completeSwitch (s : State) (hz : s.refCounts[s.live] = 0)
      (ho : s.planeState.isHolding = true ∨ NoOverlap s.planes[s.other]) :
      PlaneMove s s.completeSwitch

/-- What an event makes of a state: moves in turn, with those of `Q` for the Plane Controller; where HOLDING
is left, the heads resume with it (R35, R54). -/
inductive EventBy (Q : State → State → Prop) (s : State) : State → Prop
  | refl : EventBy Q s s
  | move {t u : State} (h : EventBy Q s t) (h' : Move t u) : EventBy Q s u
  | plane {t u : State} (h : EventBy Q s t) (h' : Q t u) (hh : t.planeState.isHolding = false) :
      EventBy Q s u
  | resume {t u : State} (h : EventBy Q s t) (h' : Q t u) (hh : u.planeState.isHolding = false) :
      EventBy Q s u.resumeHeads

/-- An event that may change the window map. -/
abbrev Event : State → State → Prop := EventBy PlaneMove

/-- An event that leaves the planes and the generation alone. -/
abbrev QuietEvent : State → State → Prop := EventBy StateMove

namespace EventBy

variable {Q : State → State → Prop} {s t u : State}

theorem of_move (h : Move s t) : EventBy Q s t := refl.move h

theorem trans (h : EventBy Q s t) (h' : EventBy Q t u) : EventBy Q s u := by
  induction h' with
  | refl => exact h
  | move _ h2 ih => exact ih.move h2
  | plane _ h2 hh ih => exact ih.plane h2 hh
  | resume _ h2 hh ih => exact ih.resume h2 hh

theorem mono {R : State → State → Prop} (hQ : ∀ s t, Q s t → R s t) (h : EventBy Q s t) :
    EventBy R s t := by
  induction h with
  | refl => exact refl
  | move _ h2 ih => exact ih.move h2
  | plane _ h2 hh ih => exact ih.plane (hQ _ _ h2) hh
  | resume _ h2 hh ih => exact ih.resume (hQ _ _ h2) hh

theorem event (h : QuietEvent s t) : Event s t := h.mono fun _ _ => .state

theorem ite {c : Prop} [Decidable c] {f g : State} (hf : c → EventBy Q s f) (hg : ¬c → EventBy Q s g) :
    EventBy Q s (if c then f else g) := by
  split
  · exact hf ‹_›
  · exact hg ‹_›

theorem foldl {β : Type} {f : State → β → State} (h : ∀ s b, EventBy Q s (f s b)) (l : List β)
    (s : State) : EventBy Q s (l.foldl f s) := by
  induction l generalizing s with
  | nil => exact refl
  | cons b l ih => exact (h s b).trans (ih _)

end EventBy
end Sys2Proof.Machine

namespace Sys2Proof.Machine

/-! ### What the shared operations are made of -/

/-- A saturating count after an event that raises it or does not. -/
def countIf (b : Bool) (n : Nat) : Nat := if b then satInc n else n

theorem countIf_le {n : Nat} (b : Bool) (h : n ≤ 65535) : countIf b n ≤ 65535 := by
  cases b
  · exact h
  · exact Nat.min_le_right _ _

/-- A fence after the report of the entry at `i` (R154). -/
def Fence.reported (f : Fence) (i : OrtIndex) (failed : Bool) : Fence :=
  { f with members := f.members.erase i, failures := countIf failed f.failures }

/-- A report of an entry that no fence covers (R155). -/
theorem State.fenceReport_outside {s : State} {m : Master} {i : OrtIndex} {failed : Bool}
    (h : ∀ f, (s.port m).fence.slot = some f → i ∉ f.members) :
    s.fenceReport m i failed = s.setFence m { (s.port m).fence with
      postedFailures := countIf failed (s.port m).fence.postedFailures } := by
  cases hs : (s.port m).fence.slot with
  | none => simp only [State.fenceReport, hs, countIf]
  | some f => simp only [State.fenceReport, hs, h f hs, if_false, countIf]

/-- A report of an entry that the fence covers; the last one completes the fence (R154, R156). -/
theorem State.fenceReport_member {s : State} {m : Master} {i : OrtIndex} {failed : Bool} {f : Fence}
    (hs : (s.port m).fence.slot = some f) (hi : i ∈ f.members) :
    s.fenceReport m i failed =
      let t := s.setFence m ⟨some (f.reported i failed), (s.port m).fence.postedFailures⟩
      if (f.members.erase i).isEmpty then t.completeFence m (f.reported i failed) else t := by
  simp only [State.fenceReport, hs, hi, if_true, countIf, Fence.reported]

theorem State.headRequest_dataHead {s : State} {m : Master} {q : Request}
    (h : s.headRequest m = some q) : ∃ pkt, s.dataHead m = some pkt ∧ pkt.request? = some q :=
  Option.bind_eq_some_iff.mp h

theorem State.dataHead_eq_some {s : State} {m : Master} {pkt : DataPacket} :
    s.dataHead m = some pkt ↔
      (s.port m).state = .active ∧ (s.port m).ingress.dataQueue.head? = some pkt := by
  unfold State.dataHead State.isActive
  cases h : (s.port m).state <;> simp

theorem State.controlHead_eq_some {s : State} {m : Master} {pkt : ControlPacket} :
    s.controlHead m = some pkt ↔
      (s.port m).state = .active ∧ (s.port m).ingress.controlQueue.head? = some pkt := by
  unfold State.controlHead State.isActive
  cases h : (s.port m).state <;> simp

theorem State.fenceHeadReady_eq_some {s : State} {m : Master} {tag : Tag} :
    s.fenceHeadReady m = some tag ↔
      s.dataHead m = some (.fence tag) ∧ (s.port m).ingress.headSlot = true := by
  unfold State.fenceHeadReady
  cases h : s.dataHead m with
  | none => simp
  | some pkt => cases pkt <;> simp [and_comm]

/-- A phase is ISSUED, in a lane or LAPSED. -/
theorem OrtPhase.issued_or_inLane {p : OrtPhase} (h : p.counted = true) (hi : p.isIssued = false) :
    p.inLane = true := by
  cases p <;> simp_all [OrtPhase.counted, OrtPhase.isIssued, OrtPhase.inLane]

/-- A port without credits meets the credit law in every state (R122). -/
theorem TargetPort.creditLaw_zero {p : TargetPort} (hp : p.posted = .zero) (hr : p.request = .zero) :
    p.CreditLaw := by
  rw [TargetPort.CreditLaw, hp, hr]
  exact ⟨Credits.zero_balanced, Credits.zero_balanced, fun _ => ⟨rfl, rfl⟩⟩

namespace EventBy

variable {Q : State → State → Prop} (s : State)

theorem takeReadyFence (m : Master) : EventBy Q s (s.takeReadyFence m) := by
  unfold State.takeReadyFence
  split
  · next tag h _ =>
    obtain ⟨hp, hs⟩ := State.fenceHeadReady_eq_some.mp h
    exact of_move (.takeFence s m tag hp hs)
  · exact refl

theorem completeFence (m : Master) (f : Fence) : EventBy Q s (s.completeFence m f) :=
  (of_move (.finishFence s m f)).trans (takeReadyFence _ m)

theorem fenceReport (m : Master) (i : OrtIndex) (failed : Bool) :
    EventBy Q s (s.fenceReport m i failed) := by
  by_cases h : ∃ f, (s.port m).fence.slot = some f ∧ i ∈ f.members
  · obtain ⟨f, hs, hi⟩ := h
    have noted : EventBy Q s _ := of_move (.setFence s m
      ⟨some (f.reported i failed), (s.port m).fence.postedFailures⟩
      (by simp [hs]) fun h => ⟨h.1, by rintro _ ⟨⟩; exact countIf_le failed (h.2 f hs)⟩)
    rw [State.fenceReport_member hs hi]
    exact ite (fun _ => noted.trans (completeFence _ m _)) fun _ => noted
  · rw [State.fenceReport_outside fun f hs hi => h ⟨f, hs, hi⟩]
    exact of_move (.setFence s m _ id fun h => ⟨countIf_le failed h.1, h.2⟩)

variable {s} {i : OrtIndex} {u : OrtUse}

theorem reportFailure (st : Status) (hn : ∀ v, (s.entry i).use = some v → v.responseOwed = false) :
    EventBy Q s (s.reportFailure i u st) := by
  unfold State.reportFailure
  refine ite (fun _ => ite (fun _ => ?_) fun _ => refl) fun _ => ite (fun _ => ?_) fun _ => refl
  · exact (of_move (.notify ..)).trans (fenceReport _ _ i true)
  · exact of_move (.respond s i u st [] hn)

theorem failEntry (st : Status) (hu : (s.entry i).use = some u) (hc : u.phase.counted = true) :
    EventBy Q s (s.failEntry i u st) := by
  refine (of_move (.retire s i u hu hc)).trans (reportFailure st ?_)
  simp [State.entry_retire]

theorem loseEntry (t : Target) (s : State) (i : OrtIndex) : EventBy Q s (State.loseEntry t s i) := by
  unfold State.loseEntry
  split
  · exact refl
  · next u hu =>
    refine ite (fun _ => ite (fun hc => failEntry _ hu hc) fun hc => ?_) fun _ => refl
    exact of_move (.clearEntry s i u hu (by simpa using hc))

theorem portDown (s : State) (t : Target) : EventBy Q s (s.portDown t) :=
  of_move (.modTarget s t _ (fun _ => TargetPort.creditLaw_zero rfl rfl) id)

theorem notifyDown (s : State) (t : Target) (c : DownCause) (l : TargetState) :
    EventBy Q s (s.notifyDown t c l) := of_move (.notifyAll ..)

theorem leaveUp (s : State) (t : Target) (c : DownCause) : EventBy Q s (s.leaveUp t c) :=
  (((portDown s t).trans (notifyDown _ t c .up)).trans (foldl (loseEntry t) _ _)).trans
    (of_move (.announcements ..))

theorem expire (hu : (s.entry i).use = some u) (hc : u.phase.counted = true) :
    EventBy Q s (s.expire i u) := by
  unfold State.expire
  refine ite (fun hi => ?_) fun _ => failEntry _ hu hc
  refine (of_move (.lapse s i u hu hi)).trans (reportFailure _ fun v hv => ?_)
  rw [State.entry_lapse, if_pos rfl] at hv
  cases hv
  rfl

theorem retry {d : Nat} (hu : (s.entry i).use = some u) (hp : u.phase = .issued d) :
    EventBy Q s (s.retry i u) := by
  unfold State.retry
  refine ite (fun h => ?_) fun _ => failEntry _ hu (by rw [hp]; rfl)
  simp only [hp, OrtPhase.deadline?]
  exact of_move (.backOff s i u d _ _ hu hp h.2)

theorem complete (status : Byte) (data : List Byte) (hu : (s.entry i).use = some u)
    (hc : u.phase.counted = true) : EventBy Q s (s.complete i u status data) := by
  have retired : EventBy Q s _ := of_move (.retire s i u hu hc)
  exact ite (fun _ => retired.trans (of_move (.respond _ i u _ _ (by simp [State.entry_retire]))))
    fun _ => retired

end EventBy

/-! ### Heads -/

/-- Moves in turn. -/
abbrev Moves : State → State → Prop := Relation.ReflTransGen Move

namespace Moves

open Relation.ReflTransGen

variable {s t : State} {m : Master} {q : Request}

theorem ite {c : Prop} [Decidable c] {f g : State} (hf : c → Moves s f) (hg : ¬c → Moves s g) :
    Moves s (if c then f else g) := by
  split
  · exact hf ‹_›
  · exact hg ‹_›

theorem admitOrWait {r : Routing} {k : Kind} (hq : s.headRequest m = some q)
    (hs : (s.port m).ingress.headSlot = true) (hp : (s.port m).ingress.headPhase = .routed r k)
    (hg : r.generation = s.generation) : Moves s (s.admitOrWait m q r k) := by
  refine ite (fun _ => refl) fun _ => ?_
  split
  · exact refl
  · next i hi =>
    exact ite (fun hr => single (.admission s m q r k i hq hs hp hg (State.freeIndex_free hi) hr))
      fun _ => refl

/-- What follows the routing of a head that holds its slot: the refusal, or the admission attempt (R57, R60). -/
theorem of_routed (hq : s.headRequest m = some q) :
    Moves (s.setHeadPhase m (s.routePhase m q)) (s.routeHead m q) := by
  have hq' : (s.setHeadPhase m (s.routePhase m q)).headRequest m = some q :=
    (State.headRequest_congr (by simp [State.setHeadPhase, State.modIngress])
      (by simp [State.setHeadPhase, State.modIngress])).trans hq
  have hp : ((s.setHeadPhase m (s.routePhase m q)).port m).ingress.headPhase = s.routePhase m q := by
    simp [State.setHeadPhase, State.modIngress]
  refine ite (fun hs => ?_) fun _ => refl
  cases h : s.routePhase m q with
  | unrouted => exact refl
  | refused st => rw [h] at hq'; exact single (.refuse _ m q st hq')
  | routed r k =>
    rw [h] at hq' hp hs
    exact admitOrWait hq' hs hp (State.routePhase_routed h).2.1

theorem routeHead (hq : s.headRequest m = some q) : Moves s (s.routeHead m q) :=
  (of_routed hq).head (Move.route s m q hq)

theorem attempt {r : Routing} {k : Kind} (hq : s.headRequest m = some q)
    (hs : (s.port m).ingress.headSlot = true) (hp : (s.port m).ingress.headPhase = .routed r k) :
    Moves s (s.attempt m q r k) := by
  refine ite (fun h => admitOrWait hq hs hp ?_) fun _ => routeHead hq
  simp only [State.routingCurrent, Bool.and_eq_true, beq_iff_eq] at h
  exact h.1

theorem routeUnrouted (s : State) (m : Master) : Moves s (s.routeUnrouted m) := by
  unfold State.routeUnrouted
  split
  · next q hq _ => exact routeHead hq
  · exact refl

end Moves

namespace EventBy

variable {Q : State → State → Prop} {s t : State} {m : Master} {q : Request}

theorem of_moves (h : Moves s t) : EventBy Q s t := by
  induction h with
  | refl => exact refl
  | tail _ h' ih => exact ih.move h'

theorem routeHead (hq : s.headRequest m = some q) : EventBy Q s (s.routeHead m q) :=
  of_moves (Moves.routeHead hq)

theorem attempt {r : Routing} {k : Kind} (hq : s.headRequest m = some q)
    (hs : (s.port m).ingress.headSlot = true) (hp : (s.port m).ingress.headPhase = .routed r k) :
    EventBy Q s (s.attempt m q r k) := of_moves (Moves.attempt hq hs hp)

theorem routeUnrouted (s : State) (m : Master) : EventBy Q s (s.routeUnrouted m) :=
  of_moves (Moves.routeUnrouted s m)

end EventBy
end Sys2Proof.Machine

namespace Sys2Proof.Machine

/-! ### What each command is made of -/

namespace EventBy

variable {Q : State → State → Prop} {s t : State}

theorem of_takeEvent {f : State → State} (h : takeEvent s f = .next t) (hf : EventBy Q s (f s)) :
    EventBy Q s t := by
  rcases takeEvent_cases h with ⟨_, rfl⟩ | ⟨_, rfl⟩
  · exact hf
  · exact refl

theorem of_takePortEvent {m : Master} {f : State → State} (h : takePortEvent m s f = .next t)
    (hf : EventBy Q s (f s)) : EventBy Q s t :=
  of_takeEvent h (ite (fun _ => hf) fun _ => refl)

/-! #### The master links -/

theorem arriveData (m : Master) (pkt : DataPacket) : EventBy Q s (s.arriveData m pkt) := by
  cases hs : (s.port m).state with
  | offline => simpa only [State.arriveData, hs] using of_move (.fault s m)
  | active =>
    simp only [State.arriveData, hs]
    exact ite (fun _ => of_move (.fault s m)) fun ho => of_move (.takeData s m pkt hs ho)
  | quarantined =>
    simp only [State.arriveData, hs]
    exact ite (fun _ => of_move (.fault s m)) fun ho =>
      of_move (.returnData s m (by simp [hs]) ho)

theorem arriveControl (m : Master) (pkt : ControlPacket) : EventBy Q s (s.arriveControl m pkt) := by
  cases hs : (s.port m).state with
  | offline => simpa only [State.arriveControl, hs] using of_move (.fault s m)
  | active =>
    simp only [State.arriveControl, hs]
    exact ite (fun _ => of_move (.fault s m)) fun ho => of_move (.takeControl s m pkt hs ho)
  | quarantined =>
    simp only [State.arriveControl, hs]
    exact ite (fun _ => of_move (.fault s m)) fun ho =>
      of_move (.returnControl s m (by simp [hs]) ho)

theorem malformedMaster (m : Master) (q : FrameQueue) : EventBy Q s (s.malformedMaster m q) := by
  have faulted : EventBy Q s _ := of_move (.fault s m)
  have state : ((s.fault m).port m).state = (s.port m).state := by simp [State.fault]
  have ingress : ((s.fault m).port m).ingress = (s.port m).ingress := by simp [State.fault]
  refine ite (fun _ => faulted) fun ha => ?_
  rw [← state] at ha
  cases q with
  | data =>
    exact ite (fun _ => faulted) fun ho => faulted.move (.returnData _ m ha (ingress ▸ ho))
  | control =>
    exact ite (fun _ => faulted) fun ho => faulted.move (.returnControl _ m ha (ingress ▸ ho))
  | neither => exact faulted

theorem closePort (m : Master) : EventBy Q s (s.closePort m) := by
  unfold State.closePort
  cases hs : (s.port m).state with
  | offline => exact refl
  | active => exact of_move (.flushPort s m _ hs (by decide))
  | quarantined => exact of_move (.exitQuarantine s m hs)

/-! #### The Control Unit -/

theorem finish (op : Operation) (code : ResultCode) (record : ResultRecord) :
    EventBy Q s (s.finish op code record) := of_move (.finish ..)

theorem renewLease (op : Operation) : QuietEvent s (s.renewLease op) := by
  unfold State.renewLease
  cases hp : s.planeState with
  | editing h l =>
    refine ite (fun _ => plane refl (.mk s _ (by simp [hp]) ?_ nofun) (by rw [hp]; rfl)) fun _ => refl
    simp [hp, PlaneState.holder]
  | _ => exact refl

/-- An operation is made of its own rule, of what a FORM refusal still does, and of CONTROL_DONE. -/
theorem of_carryOut {e : Entry} {na : State → ResultRecord} {of own : Operation → State → State}
    (h : carryOut e na of own s = .next t) (hof : ∀ op, EventBy Q s (of op s))
    (hown : ∀ op, (e.admin = true → s.isAdmin op.requester = true) → EventBy Q s (own op s)) :
    EventBy Q s t := by
  refine of_takeEvent h ?_
  cases s.control.op with
  | none => exact refl
  | some op =>
    refine ite (fun _ => refl) fun _ => ite (fun _ => finish ..) fun ha =>
      ite (fun _ => (hof op).trans (finish ..)) fun _ => hown op fun he => ?_
    simpa [he] using ha

theorem keepState (op : Operation) : EventBy Q s (Machine.keepState op s) := refl

/-! #### The Plane Controller -/

theorem grantClaim {op : Operation} (ha : s.isAdmin op.requester = true)
    (hd : s.planeState ≠ .draining) (hh : s.planeState.isHolding = false) :
    QuietEvent s (s.grantClaim op) := by
  refine (plane refl (.mk s (.editing op.requester s.leaseTimer) hd (fun m hm => ?_) nofun) hh).trans
    (finish ..)
  cases hm
  exact .inr ha

theorem toSteady {h : Master} {l : Timer} (hp : s.planeState = .editing h l) :
    QuietEvent s { s with planeState := .steady } :=
  plane refl (.mk s _ (by simp [hp]) (by simp [PlaneState.holder]) nofun) (by rw [hp]; rfl)

theorem asEditor (op : Operation) {own : State → State}
    (hown : ∀ h l, s.planeState = .editing h l → EventBy Q s (own s)) : EventBy Q s (s.asEditor op own) := by
  unfold State.asEditor
  cases hp : s.planeState with
  | steady => exact finish ..
  | editing h l => exact ite (fun _ => hown h l hp) fun _ => finish ..
  | holding => exact ite (fun _ => finish ..) fun _ => finish ..
  | draining => exact finish ..

theorem firstOverlap_none {p : Plane} (h : firstOverlap p = none) : NoOverlap p := by
  have hlt := firstOverlap_eq_none.mp h
  intro i j hij
  rcases lt_or_gt_of_ne hij with hl | hl
  · exact hlt i j hl
  · rw [← hlt j i hl]
    unfold Window.overlaps
    cases p[i].enabled <;> cases p[j].enabled <;> simp [Bool.and_comm]

theorem quiescedSwitch {h h' : Master} {l : Timer} (limit : Nat) (hp : s.planeState = .editing h l)
    (hh : h = h') (ho : NoOverlap s.planes[s.other]) : Event s (s.quiescedSwitch h' limit) := by
  have held : s.planeState.isHolding = false := by rw [hp]; rfl
  refine ite (fun hz => plane refl (.completeSwitch s hz (.inr ho)) held) fun _ => ?_
  exact plane refl (.state (.mk s _ (by simp [hp]) (by simp [hp, hh, PlaneState.holder])
    fun _ => .inr ho)) held

theorem switchBy {op : Operation} {l : Timer} (hp : s.planeState = .editing op.requester l) :
    Event s (s.switchBy op) := by
  have refused : ∀ code record, Event s ((s.renewLease op).finish op code record) :=
    fun _ _ => (renewLease op).event.trans (finish ..)
  unfold State.switchBy
  cases modeOf (op.byte 0) with
  | none => exact refused ..
  | some mode =>
    refine ite (fun _ => refused ..) fun _ => ?_
    cases ho : firstOverlap s.planes[s.other] with
    | some => exact refused ..
    | none =>
      cases mode with
      | immediate =>
        exact (plane refl (.immediateSwitch s (firstOverlap_none ho) (by rw [hp]; rfl)) (by rw [hp]; rfl)).trans
          (finish ..)
      | quiesced => exact (quiescedSwitch _ hp rfl (firstOverlap_none ho)).trans (finish ..)

theorem backToEditing {h : Master} {l : Timer} (hp : s.planeState = .holding h l) :
    QuietEvent s (s.backToEditing h) :=
  resume refl (.mk s _ (by simp [hp]) (by simp [hp, PlaneState.holder]) nofun) rfl

theorem countZero {p : PlaneId} (hz : s.refCounts[p] = 0) : Event s (s.countZero p) := by
  unfold State.countZero
  cases hp : s.planeState with
  | steady => exact refl
  | editing => exact refl
  | draining =>
    exact ite (fun he => plane refl (.reconcile s (he ▸ hz)) (by rw [hp]; rfl)) fun _ => refl
  | holding =>
    exact ite (fun he => resume refl (.completeSwitch s (he ▸ hz) (.inl (by rw [hp]; rfl))) (by
      simp [State.completeSwitch, State.reconcile, State.notifyAll, PlaneState.isHolding,
        PlaneState.phase]))
      fun _ => refl

theorem takeDecrement {p : PlaneId} (hd : s.decrements[p] ≠ 0) : Event s (s.takeDecrement p) := by
  have taken : Event s _ := of_move (.decrement s p hd)
  rw [State.takeDecrement_eq]
  exact ite (fun hz => taken.trans (countZero ((s.decremented_refCounts p).trans hz))) fun _ => taken

theorem takeFlushReport (m : Master) : QuietEvent s (s.takeFlushReport m) := by
  unfold State.takeFlushReport
  cases hp : s.planeState with
  | steady => exact refl
  | draining => exact refl
  | editing => exact ite (fun _ => toSteady hp) fun _ => refl
  | holding =>
    refine ite (fun _ => ?_) fun _ => refl
    have told : QuietEvent s _ := of_move (.notifyAll s (fun a => s.isAdmin a && a != m)
      (.switchAbandoned .requesterLost s.generation))
    exact resume told (.mk _ .steady (by simp [hp]) (by simp [PlaneState.holder]) nofun) rfl

end EventBy
end Sys2Proof.Machine

namespace Sys2Proof.Machine

/-! ### What an Issue Arbiter grants -/

theorem OrtPhase.isWaiting_iff (p : OrtPhase) : p.isWaiting = true ↔ ∃ d, p = .waiting d := by
  cases p <;> simp [OrtPhase.isWaiting]

theorem State.firstEligible_some {s : State} {p : TargetPort} {ahead : List OrderClass}
    {l : List OrtIndex} {i : OrtIndex} (h : s.firstEligible p ahead l = some i) :
    i ∈ l ∧ ∃ u d, (s.entry i).use = some u ∧ u.phase = .waiting d ∧ 1 ≤ (p.creditsFor u.kind).held := by
  induction l generalizing ahead with
  | nil => cases h
  | cons j l ih =>
    simp only [State.firstEligible] at h
    split at h
    · exact (ih h).imp (List.mem_cons_of_mem j) id
    · next u hu =>
      split at h
      · next he =>
        cases h
        simp only [OrtUse.eligible, Bool.and_eq_true, decide_eq_true_eq] at he
        obtain ⟨d, hd⟩ := u.phase.isWaiting_iff.mp he.1.1
        exact ⟨List.mem_cons_self, u, d, hu, hd, he.1.2⟩
      · exact (ih h).imp (List.mem_cons_of_mem j) id

/-- A grant goes to an entry that its lane offers (R106). -/
theorem State.arbitrate_offer {s : State} {t : Target} {m : Master} {i : OrtIndex} {run : Nat}
    (h : s.arbitrate t = some (m, i, run)) : s.offer t m = some i := by
  have next : ∀ l : List Master,
      (l.findSome? fun m => (s.offer t m).map fun i => (m, i, 1)) = some (m, i, run) →
      s.offer t m = some i := by
    intro l hl
    obtain ⟨m', _, hm⟩ := List.exists_of_findSome?_eq_some hl
    obtain ⟨i', hi, he⟩ := Option.map_eq_some_iff.mp hm
    cases he
    exact hi
  simp only [State.arbitrate] at h
  split at h
  · next hi =>
    split at h
    · cases h; exact hi
    · exact next _ h
  · exact next _ h

theorem State.arbitrate_offers {s : State} {t : Target} {m : Master} {i : OrtIndex} {run : Nat}
    (h : s.arbitrate t = some (m, i, run)) :
    ∃ u d, (s.entry i).use = some u ∧ u.phase = .waiting d ∧ i ∈ s.lane t m ∧
      1 ≤ ((s.target t).creditsFor u.kind).held := by
  obtain ⟨hl, u, d, hu, hd, hc⟩ := State.firstEligible_some (State.arbitrate_offer h)
  exact ⟨u, d, hu, hd, hl, hc⟩

namespace EventBy

variable {Q : State → State → Prop} {s t : State}

/-! #### The rest of the meanings -/

theorem slotClaimGrant {m : Master} (h : execSlotClaimGrant m s = .next t) : EventBy Q s t := by
  refine of_takeEvent h ?_
  refine ite (fun _ => refl) fun hf => ?_
  simp only [Bool.or_eq_true, Bool.not_eq_true', not_or, Bool.not_eq_true, Bool.not_eq_false] at hf
  obtain ⟨hs, hf⟩ := hf
  cases hp : s.dataHead m with
  | none => exact refl
  | some pkt =>
    have granted : EventBy Q s _ := of_move (.grantSlot s m pkt hp hf)
    have slot : ((s.grantSlot m).port m).ingress.headSlot = true := by
      simp [State.grantSlot, State.modIngress]
    have phase : ((s.grantSlot m).port m).ingress.headPhase = (s.port m).ingress.headPhase := by
      simp [State.grantSlot, State.modIngress, State.modResp]
    have request : (s.grantSlot m).headRequest m = s.headRequest m :=
      State.headRequest_congr (by simp [State.grantSlot, State.modIngress, State.modResp])
        (by simp [State.grantSlot, State.modIngress, State.modResp])
    have hq : s.headRequest m = pkt.request? := by simp [State.headRequest, hp]
    dsimp only
    cases hr : pkt.request? with
    | none => exact granted.trans (takeReadyFence _ m)
    | some q =>
      rw [hr] at hq
      cases hph : (s.port m).ingress.headPhase with
      | unrouted => exact refl
      | refused st => exact of_move (.refuseFree s m q st hq hf hs)
      | routed r k => exact granted.trans (attempt (request.trans hq) slot (phase.trans hph))

theorem admissionAttempt {m : Master} (h : execAdmissionAttempt m s = .next t) : EventBy Q s t := by
  refine of_takeEvent h ?_
  split
  · next hq hp => exact ite (fun hs => attempt hq hs hp) fun _ => refl
  · exact refl

theorem targetDownAnnouncement {m : Master} {a : Target}
    (h : execTargetDownAnnouncement m a s = .next t) : EventBy Q s t := by
  refine of_takeEvent h ?_
  refine ite (fun _ => refl) fun _ => ?_
  have taken : EventBy Q s (s.setAnnouncement m a (s.announcements[m][a] - 1)) :=
    of_move (.announcements ..)
  dsimp only
  split
  · next hq _ => exact ite (fun _ => taken.trans (routeHead hq)) fun _ => taken
  · exact taken

theorem controlTake (h : execControlTake s = .next t) : EventBy Q s t := by
  refine of_takeEvent h ?_
  split
  · next m _ hm =>
    have he := List.find?_some hm
    simp only [State.controlEligible, Bool.and_eq_true] at he
    cases hp : s.controlHead m with
    | none => exact refl
    | some pkt => exact of_move (.takeOperation s m pkt hp he.2)
  · exact refl

theorem setMasterLimits (h : execSetMasterLimits s = .next t) : EventBy Q s t := by
  refine of_carryOut h keepState fun op _ => ?_
  dsimp only
  split
  · exact finish ..
  next m _ =>
  refine ite (fun _ => finish ..) fun hq => ite (fun _ => finish ..) fun hw =>
    ite (fun _ => finish ..) fun hs => ?_
  exact (of_move (.setLimits s m _ (not_not.mp hq) (not_not.mp hw) (not_not.mp hs))).trans (finish ..)

theorem deadlineOk_iff (v : Nat) : deadlineOk v = true ↔ 10 ≤ v ∧ v ≤ 1000000 := by
  simp [deadlineOk]

theorem setDeadlines (h : execSetDeadlines s = .next t) : EventBy Q s t := by
  refine of_carryOut h keepState fun op _ => ?_
  dsimp only
  split
  · exact finish ..
  · next hv =>
    refine (of_move (.setDeadlines s _ fun d => (deadlineOk_iff _).mp ?_)).trans (finish ..)
    simpa using List.find?_eq_none.mp hv d (List.mem_finRange d)

theorem resetTarget (h : execResetTarget s = .next t) : EventBy Q s t := by
  refine of_carryOut h keepState fun op _ => ?_
  dsimp only
  split
  · exact finish ..
  next a _ =>
  have reset : EventBy Q s _ := of_move (.putTarget s a .linkReset)
  cases hs : (s.target a).state with
  | absent => dsimp only; exact finish ..
  | down => dsimp only; exact (reset.trans (notifyDown ..)).trans (finish ..)
  | up => dsimp only; exact (reset.trans (leaveUp ..)).trans (finish ..)
  | training =>
    dsimp only
    refine ((reset.move (.modTarget _ a _ (fun hc => ?_) id)).trans (notifyDown ..)).trans (finish ..)
    obtain ⟨hz, hz'⟩ := hc.2.2 (by simpa [State.putTarget, State.target] using hs ▸ nofun)
    exact TargetPort.creditLaw_zero hz hz'

theorem getWindow (h : execGetWindow s = .next t) : EventBy Q s t := by
  refine of_carryOut h keepState fun op _ => ?_
  split <;> exact finish ..

theorem probe (h : execProbe s = .next t) : EventBy Q s t := by
  refine of_carryOut h keepState fun op _ => ?_
  split <;> exact finish ..

theorem getMasterStatus (h : execGetMasterStatus s = .next t) : EventBy Q s t := by
  refine of_carryOut h keepState fun op _ => ?_
  split <;> exact finish ..

theorem getTargetStatus (h : execGetTargetStatus s = .next t) : EventBy Q s t := by
  refine of_carryOut h keepState fun op _ => ?_
  split <;> exact finish ..

theorem claimEdit (h : execClaimEdit s = .next t) : QuietEvent s t := by
  refine of_carryOut h keepState fun op ha => ?_
  cases hp : s.planeState with
  | steady => exact grantClaim (ha rfl) (by simp [hp]) (by rw [hp]; rfl)
  | editing => exact ite (fun _ => grantClaim (ha rfl) (by simp [hp]) (by rw [hp]; rfl)) fun _ => finish ..
  | holding => exact finish ..
  | draining => exact finish ..

theorem releaseEdit (h : execReleaseEdit s = .next t) : QuietEvent s t := by
  refine of_carryOut h keepState fun op _ => ?_
  cases hp : s.planeState with
  | steady => exact finish ..
  | editing => exact ite (fun _ => (toSteady hp).trans (finish ..)) fun _ => finish ..
  | holding => exact ite (fun _ => finish ..) fun _ => finish ..
  | draining => exact finish ..

theorem edit {h : Master} {l : Timer} (p : Plane) (hp : s.planeState = .editing h l) :
    Event s { s with planes := s.planes.set s.other p } :=
  plane refl (.edit s p (by rw [hp]; rfl)) (by rw [hp]; rfl)

theorem putWindow (h : execPutWindow s = .next t) : Event s t := by
  refine of_carryOut h (fun op => (renewLease op).event) fun op _ => asEditor op fun _ _ hp => ?_
  dsimp only
  split
  · exact (renewLease op).event.trans (finish ..)
  · exact ((edit _ hp).trans (renewLease op).event).trans (finish ..)

theorem revertStaged (h : execRevertStaged s = .next t) : Event s t :=
  of_carryOut h (fun op => (renewLease op).event) fun op _ => asEditor op fun _ _ hp =>
    ((edit _ hp).trans (renewLease op).event).trans (finish ..)

theorem requestSwitch (h : execRequestSwitch s = .next t) : Event s t := by
  refine of_carryOut h (fun op => (renewLease op).event) fun op _ => ?_
  cases hp : s.planeState with
  | steady => exact finish ..
  | editing => exact ite (fun he => switchBy (he ▸ hp)) fun _ => finish ..
  | holding => exact ite (fun _ => finish ..) fun _ => finish ..
  | draining => exact finish ..

theorem cancelSwitch (h : execCancelSwitch s = .next t) : QuietEvent s t := by
  refine of_carryOut h keepState fun op _ => ?_
  cases hp : s.planeState with
  | holding => exact ite (fun _ => (backToEditing hp).trans (finish ..)) fun _ => finish ..
  | _ => exact finish ..

theorem setLeasePeriod (h : execSetLeasePeriod s = .next t) : EventBy Q s t :=
  of_carryOut h keepState fun _ _ =>
    ite (fun hp => (of_move (.setLeasePeriod s _ hp)).trans (finish ..)) fun _ => finish ..

theorem clearQuarantine (h : execClearQuarantine s = .next t) : EventBy Q s t := by
  refine of_carryOut h keepState fun op _ => ?_
  split
  · exact finish ..
  · exact ite (fun hq => ((of_move (.exitQuarantine s _ hq.2)).move (.putMaster ..)).trans (finish ..))
      fun _ => finish ..

theorem unknownOperation (h : execUnknownOperation s = .next t) : EventBy Q s t := by
  refine of_takeEvent h ?_
  split
  · exact refl
  · exact ite (fun _ => refl) fun _ => finish ..

theorem leaseTimerExpiry (h : execLeaseTimerExpiry s = .next t) : QuietEvent s t := by
  refine of_takeEvent h ?_
  split
  · next hp => exact ((of_move (.pass ..)).trans (toSteady (by simpa using hp))).move (.notify ..)
  · exact refl

theorem drainLimitExpiry (h : execDrainLimitExpiry s = .next t) : QuietEvent s t := by
  refine of_takeEvent h ?_
  split
  · next hp =>
    exact ((of_move (.pass ..)).trans (backToEditing (by simpa using hp))).move (.notify ..)
  · exact refl

theorem grantEvent {a : Target} (h : execGrantEvent a s = .next t) : EventBy Q s t := by
  refine of_takeEvent h ?_
  split
  · exact refl
  · next m i run ha =>
    obtain ⟨u, d, hu, hp, hl, hc⟩ := State.arbitrate_offers ha
    simp only [hu]
    exact of_move (.issue s a m i run d u hu hp hl hc)

theorem targetLinkLost {a : Target} (h : execTargetLinkLost a s = .next t) : EventBy Q s t := by
  refine of_takeEvent h ?_
  cases hs : (s.target a).state with
  | absent => exact refl
  | down => exact refl
  | up => exact leaveUp ..
  | training =>
    refine (of_move (.modTarget _ a _ (fun hc => ?_) id)).trans (notifyDown ..)
    obtain ⟨hz, hz'⟩ := hc.2.2 (by simp [hs])
    exact TargetPort.creditLaw_zero hz hz'

theorem countStale (a : Target) : EventBy Q s (s.countStale a) :=
  of_move (.modTarget s a _ id fun h => ⟨Nat.min_le_right _ _, h.2⟩)

theorem countCreditFault (a : Target) : EventBy Q s (s.countCreditFault a) :=
  of_move (.modTarget s a _ id fun h => ⟨h.1, Nat.min_le_right _ _⟩)

end EventBy
end Sys2Proof.Machine

namespace Sys2Proof.Machine

/-- The entry that takes an answer in ISSUED (R78). -/
theorem State.taker_issued {s : State} {t : Target} {tag : Byte} {a : Answer} {i : OrtIndex} {u : OrtUse}
    (h : s.taker t tag a = .issued i u) : (s.entry i).use = some u ∧ u.phase.isIssued = true := by
  simp only [State.taker] at h
  split at h
  · cases h
  · next v hv =>
    split at h
    · split at h
      · next hp =>
        split at h
        · cases h; exact ⟨hv, by rw [hp]; rfl⟩
        · cases h
      · cases h
      · cases h
    · cases h

/-- The entry that takes an answer in LAPSED (R85). -/
theorem State.taker_lapsed {s : State} {t : Target} {tag : Byte} {a : Answer} {i : OrtIndex} {u : OrtUse}
    (h : s.taker t tag a = .lapsed i u) : (s.entry i).use = some u ∧ u.phase.counted = false := by
  simp only [State.taker] at h
  split at h
  · cases h
  · next v hv =>
    split at h
    · split at h
      · split at h <;> cases h
      · next hp => cases h; exact ⟨hv, by rw [hp]; rfl⟩
      · cases h
    · cases h

namespace EventBy

variable {Q : State → State → Prop} {s t : State}

theorem answer {a : Target} {tag : Byte} {k : Answer} {act : OrtIndex → OrtUse → State}
    (hact : ∀ i u, (s.entry i).use = some u → u.phase.isIssued = true → EventBy Q s (act i u)) :
    EventBy Q s (s.answer a tag k act) := by
  unfold State.answer
  cases (s.target a).state with
  | absent => exact refl
  | down => exact refl
  | training => exact countStale a
  | up =>
    dsimp only
    cases h : s.taker a tag k with
    | stale => exact countStale a
    | issued i u =>
      obtain ⟨hu, hp⟩ := State.taker_issued h
      exact hact i u hu hp
    | lapsed i u =>
      obtain ⟨hu, hp⟩ := State.taker_lapsed h
      exact of_move (.clearEntry s i u hu hp)

theorem malformedTarget (a : Target) (frame : List Byte) : EventBy Q s (s.malformedTarget a frame) := by
  unfold State.malformedTarget
  cases (s.target a).state with
  | absent => exact refl
  | down => exact refl
  | training => exact ite (fun _ => countCreditFault a) fun _ => countStale a
  | up => exact ite (fun _ => countCreditFault a) fun _ => countStale a

theorem counted_of_issued {p : OrtPhase} (h : p.isIssued = true) : p.counted = true := by
  cases p <;> simp_all [OrtPhase.isIssued, OrtPhase.counted]

theorem tComplete {a : Target} {tag status : Byte} {data : List Byte}
    (h : execTComplete a tag status data s = .next t) : EventBy Q s t := by
  refine of_takeEvent h ?_
  exact ite (fun _ => malformedTarget ..) fun _ =>
    answer fun i u hu hi => complete _ _ hu (counted_of_issued hi)

theorem tAccept {a : Target} {tag status : Byte} (h : execTAccept a tag status s = .next t) :
    EventBy Q s t := by
  refine of_takeEvent h (answer fun i u hu hi => ?_)
  have retired : EventBy Q s _ := of_move (.retire s i u hu (counted_of_issued hi))
  exact ite (fun _ => retired.trans (fenceReport ..)) fun _ => retired

theorem tRetry {a : Target} {tag : Byte} (h : execTRetry a tag s = .next t) : EventBy Q s t := by
  refine of_takeEvent h (answer fun i u hu hi => ?_)
  cases hp : u.phase with
  | issued d => exact retry hu hp
  | _ => simp [hp, OrtPhase.isIssued] at hi

theorem tReady {a : Target} {p r : Byte} (h : execTReady a p r s = .next t) : EventBy Q s t := by
  refine of_takeEvent h ?_
  cases (s.target a).state with
  | absent => exact refl
  | down => exact refl
  | up => exact countCreditFault a
  | training =>
    refine ite (fun hc => ?_) fun _ => countCreditFault a
    refine (of_move (.modTarget s a _ (fun _ => ?_) id)).move (.notifyAll ..)
    exact ⟨Credits.grant_balanced hc.1.2, Credits.grant_balanced hc.2.2, fun hn => absurd rfl hn⟩

theorem tCredit {a : Target} {p r : Byte} (h : execTCredit a p r s = .next t) : EventBy Q s t := by
  refine of_takeEvent h ?_
  dsimp only
  cases hs : (s.target a).state with
  | absent => exact refl
  | down => exact refl
  | training => exact countCreditFault a
  | up =>
    have returned : EventBy Q s _ := of_move (.modTarget s a (fun q =>
        { q with posted := q.posted.restore p.toNat, request := q.request.restore r.toNat })
      (fun hc => ⟨Credits.restore_balanced hc.1 _, Credits.restore_balanced hc.2.1 _,
        fun hn => absurd hs hn⟩) id)
    exact ite (fun _ => returned.trans (countCreditFault a)) fun _ => returned

theorem deadlineExpiry {i : OrtIndex} (h : execDeadlineExpiry i s = .next t) : EventBy Q s t := by
  refine of_takeEvent h ?_
  split
  · exact refl
  · next u hu =>
    split
    · exact refl
    · next d hd =>
      refine (of_move (.pass ..)).trans (expire hu ?_)
      cases hp : u.phase <;> simp_all [OrtPhase.deadline?, OrtPhase.counted]

theorem lapseEnd {i : OrtIndex} (h : execLapseEnd i s = .next t) : EventBy Q s t := by
  refine of_takeEvent h ?_
  split
  · exact refl
  · next u hu =>
    split
    · exact refl
    · next l hl =>
      refine (of_move (.pass ..)).move (.clearEntry _ i u hu ?_)
      cases hp : u.phase <;> simp_all [OrtPhase.lapseEnd?, OrtPhase.counted]

theorem backoffEnd {i : OrtIndex} (h : execBackoffEnd i s = .next t) : EventBy Q s t := by
  refine of_takeEvent h ?_
  split
  · exact refl
  · next u hu =>
    split
    · next d b hp => exact (of_move (.pass ..)).move (.endBackoff _ i u d b hu hp)
    · exact refl

theorem stallExpiry {m : Master} (h : execStallExpiry m s = .next t) : EventBy Q s t := by
  refine of_takeEvent h ?_
  refine ite (fun hr => ?_) fun _ => refl
  refine ((of_move (.pass ..)).move (.flushPort _ m .quarantined ?_ (by decide))).move (.notifyAll ..)
  rw [State.port_passTime]
  exact ((s.port m).stallRuns_iff.mp hr).1

theorem sendEvent {m : Master} (h : execSendEvent m s = .next t) : EventBy Q s t := by
  refine of_takeEvent h ?_
  dsimp only
  split
  · exact (of_move (.sendCredits s m)).move (.putMaster ..)
  · exact (of_move (.sendNotice s m)).move (.putMaster ..)
  · exact (of_move (.sendResponse s m)).move (.putMaster ..)
  · exact refl

theorem linkUp {m : Master} {n : Byte} (h : execLinkUp m n s = .next t) : EventBy Q s t := by
  refine of_takePortEvent h ?_
  cases hs : (s.port m).state with
  | offline => exact ite (fun hn => of_move (.openPort s m _ hs hn)) fun _ => of_move (.fault s m)
  | active => exact of_move (.fault s m)
  | quarantined => exact refl

theorem creditReturn {m : Master} {n : Byte} (h : execCredit m n s = .next t) : EventBy Q s t := by
  refine of_takePortEvent h ?_
  have returned : EventBy Q s _ := of_move (.credit s m n.toNat)
  exact ite (fun _ => ite (fun _ => returned.move (.fault ..)) fun _ => returned) fun _ => refl

theorem read {m : Master} {tag : Tag} {len : LengthField} {addr : Address}
    (h : execRead m tag len addr s = .next t) : EventBy Q s t :=
  of_takePortEvent h (arriveData ..)

theorem write {m : Master} {tag : Tag} {len : LengthField} {addr : Address} {data : List Byte}
    (h : execWrite m tag len addr data s = .next t) : EventBy Q s t :=
  of_takePortEvent h (ite (fun _ => arriveData ..) fun _ => malformedMaster ..)

theorem fence {m : Master} {tag : Tag} (h : execFence m tag s = .next t) : EventBy Q s t :=
  of_takePortEvent h (arriveData ..)

theorem control {m : Master} {tag : Tag} {op : Byte} {args : List Byte}
    (h : execControl m tag op args s = .next t) : EventBy Q s t :=
  of_takePortEvent h (ite (fun _ => arriveControl ..) fun _ => malformedMaster ..)

theorem linkReset {m : Master} (h : execLinkReset m s = .next t) : EventBy Q s t :=
  of_takePortEvent h (closePort _)

theorem masterLinkLost {m : Master} (h : execMasterLinkLost m s = .next t) : EventBy Q s t :=
  of_takePortEvent h (closePort _)

theorem malformedMasterFrame {m : Master} {frame : List Byte}
    (h : execMalformedMasterFrame m frame s = .next t) : EventBy Q s t :=
  of_takePortEvent h (ite (fun _ => malformedMaster ..) fun _ => refl)

theorem headRouting {m : Master} (h : execHeadRouting m s = .next t) : EventBy Q s t :=
  of_takeEvent h (routeUnrouted ..)

theorem fenceTake {m : Master} (h : execFenceTake m s = .next t) : EventBy Q s t :=
  of_takeEvent h (takeReadyFence ..)

theorem getPlaneStatus (h : execGetPlaneStatus s = .next t) : EventBy Q s t :=
  of_carryOut h keepState fun _ _ => finish ..

theorem getSettings (h : execGetSettings s = .next t) : EventBy Q s t :=
  of_carryOut h keepState fun _ _ => finish ..

theorem planeCountDecrement {p : PlaneId} (h : execPlaneCountDecrement p s = .next t) : Event s t :=
  of_takeEvent h (ite (fun _ => refl) fun hd => takeDecrement hd)

theorem flushReport {m : Master} (h : execFlushReport m s = .next t) : QuietEvent s t :=
  of_takeEvent h (ite (fun _ => refl) fun _ =>
      (of_move (.flushReports ..)).trans (takeFlushReport _))

theorem targetLinkDetected {a : Target} (h : execTargetLinkDetected a s = .next t) : EventBy Q s t :=
  of_takeEvent h (ite (fun hs => of_move (.modTarget _ _ _ (fun hc => TargetPort.creditLaw_zero
      (hc.2.2 (by simp [hs])).1 (hc.2.2 (by simp [hs])).2) id)) fun _ => refl)

theorem tReject {a : Target} {tag status : Byte}
    (h : execTReject a tag status s = .next t) : EventBy Q s t :=
  of_takeEvent h (answer fun _ _ hu hi => failEntry _ hu (counted_of_issued hi))

theorem malformedTargetFrame {a : Target} {frame : List Byte}
    (h : execMalformedTargetFrame a frame s = .next t) : EventBy Q s t :=
  of_takeEvent h (ite (fun _ => malformedTarget ..) fun _ => refl)

end EventBy

/-- The commands whose events change the window map (R19, R21, R29, R39). -/
def writesMap : Instr → Bool
  | .putWindow => true
  | .revertStaged => true
  | .requestSwitch => true
  | .planeCountDecrement _ => true
  | _ => false

open EventBy in
/-- Every command but the two of PWRON_N and the four that change the window map is a quiet event: moves in
turn. -/
theorem exec_quiet (c : Instr) {s t : State} (h1 : c ≠ .pwronLow)
    (h2 : ∀ a b d e, c ≠ .powerOn a b d e) (hw : writesMap c = false) (h : exec c s = .next t) :
    QuietEvent s t := by
  cases c with
  | putWindow | revertStaged | requestSwitch | planeCountDecrement => cases hw
  | powerOn a b d e => exact absurd rfl (h2 a b d e)
  | pwronLow => exact absurd rfl h1
  | read => exact read h
  | write => exact write h
  | fence => exact fence h
  | control => exact control h
  | linkUp => exact linkUp h
  | credit => exact creditReturn h
  | linkReset => exact linkReset h
  | masterLinkLost => exact masterLinkLost h
  | malformedMasterFrame => exact malformedMasterFrame h
  | headRouting => exact headRouting h
  | slotClaimGrant => exact slotClaimGrant h
  | admissionAttempt => exact admissionAttempt h
  | targetDownAnnouncement => exact targetDownAnnouncement h
  | fenceTake => exact fenceTake h
  | controlTake => exact controlTake h
  | getWindow => exact getWindow h
  | probe => exact probe h
  | getPlaneStatus => exact getPlaneStatus h
  | getMasterStatus => exact getMasterStatus h
  | getTargetStatus => exact getTargetStatus h
  | getSettings => exact getSettings h
  | claimEdit => exact claimEdit h
  | releaseEdit => exact releaseEdit h
  | cancelSwitch => exact cancelSwitch h
  | setLeasePeriod => exact setLeasePeriod h
  | setMasterLimits => exact setMasterLimits h
  | setDeadlines => exact setDeadlines h
  | clearQuarantine => exact clearQuarantine h
  | resetTarget => exact resetTarget h
  | unknownOperation => exact unknownOperation h
  | leaseTimerExpiry => exact leaseTimerExpiry h
  | drainLimitExpiry => exact drainLimitExpiry h
  | flushReport => exact flushReport h
  | grantEvent => exact grantEvent h
  | targetLinkDetected => exact targetLinkDetected h
  | targetLinkLost => exact targetLinkLost h
  | tReady => exact tReady h
  | tCredit => exact tCredit h
  | tComplete => exact tComplete h
  | tAccept _ _ status => exact tAccept (status := status) h
  | tReject _ _ status => exact tReject (status := status) h
  | tRetry => exact tRetry h
  | malformedTargetFrame => exact malformedTargetFrame h
  | deadlineExpiry => exact deadlineExpiry h
  | lapseEnd => exact lapseEnd h
  | backoffEnd => exact backoffEnd h
  | stallExpiry => exact stallExpiry h
  | sendEvent => exact sendEvent h

open EventBy in
/-- Every command but the two of PWRON_N is an event: moves in turn. -/
theorem exec_event (c : Instr) {s t : State} (h1 : c ≠ .pwronLow)
    (h2 : ∀ a b d e, c ≠ .powerOn a b d e) (h : exec c s = .next t) : Event s t := by
  by_cases hw : writesMap c = false
  · exact (exec_quiet c h1 h2 hw h).event
  · cases c with
    | putWindow => exact putWindow h
    | revertStaged => exact revertStaged h
    | requestSwitch => exact requestSwitch h
    | planeCountDecrement => exact planeCountDecrement h
    | _ => exact absurd rfl hw

end Sys2Proof.Machine

namespace Sys2Proof.Machine

/-! ### From moves to steps -/

/-- What every move keeps, and every change at the Plane Controller, every event keeps. -/
theorem EventBy.keeps {Q : State → State → Prop} {P : State → Prop} (hm : ∀ s t, Move s t → P s → P t)
    (hp : ∀ s t, Q s t → P s → P t) (hc : ∀ s n, P s → P { s with choices := n })
    {s t : State} (h : EventBy Q s t) (hs : P s) : P t := by
  have hms : ∀ {s t}, Moves s t → P s → P t := by
    intro s t h hs
    induction h with
    | refl => exact hs
    | tail _ h ih => exact hm _ _ h ih
  induction h with
  | refl => exact hs
  | move _ h ih => exact hm _ _ h ih
  | plane _ h _ ih => exact hp _ _ h ih
  | resume _ h _ ih =>
    exact State.resumeHeads_keeps P hc (fun s m => hms (Moves.routeUnrouted s m)) _ (hp _ _ h ih)

/-- A step is one event, from the state with its queue or its choice counter advanced, or one of the two
events of PWRON_N. -/
theorem step_cases {s t : State} (h : step s = .next t) :
    (∃ c l, Event { s with choices := c, pending := l } t) ∨
    ∃ straps b c l, t = { State.powerOn straps with pwronN := b, choices := c, pending := l } := by
  have run : ∀ c (u : State), exec c u = .next t →
      Event u t ∨ ∃ straps b c l, t =
        { State.powerOn straps with pwronN := b, choices := c, pending := l } := by
    intro c u hu
    by_cases h1 : c = .pwronLow
    · subst h1; cases hu; exact .inr ⟨_, _, _, _, rfl⟩
    by_cases h2 : ∃ a b d e, c = .powerOn a b d e
    · obtain ⟨a, b, d, e, rfl⟩ := h2; cases hu; exact .inr ⟨_, _, _, _, rfl⟩
    · exact .inl (exec_event c h1 (fun a b d e hc => h2 ⟨a, b, d, e, hc⟩) hu)
  unfold step at h
  split at h
  · unfold idleStep at h
    split at h
    · split at h
      · cases h
        exact .inl ⟨_, _, EventBy.of_move (.pass { s with choices := s.choices + 1 } 1)⟩
      · exact (run _ _ h).imp (fun e => ⟨_, _, e⟩) id
    · cases h
      exact .inl ⟨_, _, EventBy.refl⟩
  · exact (run _ _ h).imp (fun e => ⟨_, _, e⟩) id

/-- What holds at power-on, is not about the queue or the choice counter, and is kept by every move, every
step keeps. -/
theorem step_keeps {P : State → Prop} (hm : ∀ s t, Move s t → P s → P t)
    (hp : ∀ s t, PlaneMove s t → P s → P t)
    (hc : ∀ s c l, P s → P { s with choices := c, pending := l })
    (h0 : ∀ straps b c l,
      P { State.powerOn straps with pwronN := b, choices := c, pending := l })
    {s t : State} (hs : P s) (h : step s = .next t) : P t := by
  rcases step_cases h with ⟨c, l, e⟩ | ⟨straps, b, c, l, rfl⟩
  · exact e.keeps hm hp (fun s n => hc s n s.pending) (hc s c l hs)
  · exact h0 straps b c l

end Sys2Proof.Machine

namespace Sys2Proof.Machine

/-! ### The fields that few moves touch -/

/-- Of the moves, a change of a target port and an issue alone touch the target ports. -/
theorem Move.target_cases {s t : State} (h : Move s t) :
    t.targets = s.targets ∨
    (∃ a f, t.targets = (s.modTarget a f).targets ∧
      ((s.target a).CreditLaw → (f (s.target a)).CreditLaw) ∧
      ((s.target a).Saturated → (f (s.target a)).Saturated)) ∨
    ∃ a m run k, t.targets =
        (s.modTarget a fun p => { p.spend k with pointer := m, run := run }).targets ∧
      1 ≤ ((s.target a).creditsFor k).held := by
  cases h with
  | modTarget a f hc hs => exact .inr (.inl ⟨a, f, rfl, hc, hs⟩)
  | issue a m i run d u hu hp hl hc => exact .inr (.inr ⟨a, m, run, u.kind, rfl, hc⟩)
  | _ => left; simp [State.grantSlot, State.takeOperation, State.decremented]

theorem PlaneMove.targets {s t : State} (h : PlaneMove s t) : t.targets = s.targets := by
  rcases h with ⟨⟨⟩⟩ | _ | _ | _ | _ <;> simp

/-- A port that spends a credit it holds stays balanced (R120, R122). -/
theorem TargetPort.CreditLaw.spend {p : TargetPort} (h : p.CreditLaw) {k : Kind} (m : Master) (run : Nat)
    (hc : 1 ≤ (p.creditsFor k).held) :
    ({ p.spend k with pointer := m, run := run } : TargetPort).CreditLaw := by
  obtain ⟨h1, h2, h3⟩ := h
  have up : p.state = .up := by
    by_contra hn
    obtain ⟨e1, e2⟩ := h3 hn
    unfold TargetPort.creditsFor at hc
    split at hc
    · rw [e1] at hc; exact absurd hc (by decide)
    · rw [e2] at hc; exact absurd hc (by decide)
  unfold TargetPort.creditsFor at hc
  unfold TargetPort.spend
  split
  · next hk => rw [if_pos hk] at hc; exact ⟨Credits.spend_balanced h1 hc, h2, fun hn => absurd up hn⟩
  · next hk => rw [if_neg hk] at hc; exact ⟨h1, Credits.spend_balanced h2 hc, fun hn => absurd up hn⟩

theorem State.TargetCreditLaw.move {s t : State} (h : Move s t) (hs : s.TargetCreditLaw) :
    t.TargetCreditLaw := by
  intro a
  rcases h.target_cases with e | ⟨b, f, e, hc, _⟩ | ⟨b, m, run, k, e, hc⟩
  · rw [State.target_congr e]; exact hs a
  · rw [State.target_congr e, State.target_modTarget]
    split
    · exact hc (hs b)
    · exact hs a
  · rw [State.target_congr e, State.target_modTarget]
    split
    · exact (hs b).spend m run hc
    · exact hs a

/-- At power-on no target port has credits (R115). -/
theorem State.powerOn_targetCreditLaw (straps : Straps) : (State.powerOn straps).TargetCreditLaw := by
  intro t
  have e : (State.powerOn straps).target t = .powerOn straps.tpresent[t] := by
    simp [State.target, State.powerOn]
  rw [e]
  exact TargetPort.creditLaw_zero rfl rfl

/-- Settles O52: of the moves of an event only an issue spends a credit, and it spends one that is held. -/
theorem everyStepKeepsTargetCredits : Obligations.EveryStepKeepsTargetCredits := fun _ _ =>
  step_keeps (fun _ _ h hs => hs.move h)
    (fun _ _ h hs a => by rw [State.target_congr h.targets]; exact hs a) (fun _ _ _ h => h)
    fun straps _ _ _ => State.powerOn_targetCreditLaw straps

end Sys2Proof.Machine

namespace Sys2Proof.Machine

/-! ### The Plane Controller and the settings -/

/-- A vector read at an index after one of its places is set. -/
theorem vector_getElem_set {α : Type} {n : Nat} (v : Vector α n) (i j : Fin n) (a : α) :
    (v.set i a)[j] = if j = i then a else v[j] := by
  simp only [Fin.getElem_fin, Vector.getElem_set, Fin.val_inj, eq_comm (a := i)]

section

variable {s t : State}

theorem Move.planeState (h : Move s t) : t.planeState = s.planeState := by
  cases h <;> simp [State.grantSlot, State.takeOperation, State.decremented]

theorem Move.planes (h : Move s t) : t.planes = s.planes := by
  cases h <;> simp [State.grantSlot, State.takeOperation, State.decremented]

theorem Move.generation (h : Move s t) : t.generation = s.generation := by
  cases h <;> simp [State.grantSlot, State.takeOperation, State.decremented]

theorem Move.straps (h : Move s t) : t.straps = s.straps := by
  cases h <;> simp [State.grantSlot, State.takeOperation, State.decremented]

theorem PlaneMove.straps (h : PlaneMove s t) : t.straps = s.straps := by
  rcases h with ⟨⟨⟩⟩ | _ | _ | _ | _ <;> simp

theorem PlaneMove.control (h : PlaneMove s t) : t.control = s.control := by
  rcases h with ⟨⟨⟩⟩ | _ | _ | _ | _ <;> simp

/-- A controller whose switch is IMMEDIATE or complete has no holder (R31, R32, R41). -/
theorem State.immediateSwitch_holder (s : State) : s.immediateSwitch.planeState.holder = none := by
  unfold State.immediateSwitch
  dsimp only
  split <;> rfl

theorem State.HolderLaw.move (h : Move s t) (hs : s.HolderLaw) : t.HolderLaw := by
  intro m hm
  rw [h.planeState] at hm
  rw [State.isAdmin, h.straps]
  exact hs m hm

theorem State.HolderLaw.planeMove (h : PlaneMove s t) (hs : s.HolderLaw) : t.HolderLaw := by
  intro m hm
  rw [State.isAdmin, h.straps]
  cases h with
  | state h => cases h with | mk ps _ hh _ => exact (hh m hm).elim (hs m) id
  | edit => exact hs m hm
  | immediateSwitch => rw [State.immediateSwitch_holder] at hm; cases hm
  | reconcile => cases hm
  | completeSwitch => cases hm

theorem State.powerOn_holderLaw (straps : Straps) : (State.powerOn straps).HolderLaw :=
  fun _ h => nomatch h

theorem State.SettingsLaw.move (h : Move s t) (hs : s.SettingsLaw) : t.SettingsLaw := by
  obtain ⟨hp, hd, hl⟩ := hs
  have same : ∀ {c : ControlUnit}, t.control = c → c.leasePeriod = s.control.leasePeriod →
      c.deadlines = s.control.deadlines → c.limits = s.control.limits → t.SettingsLaw := by
    intro c hc h1 h2 h3
    simp only [State.SettingsLaw, State.classValue, State.limits, hc, h1, h2, h3]
    exact ⟨hp, hd, hl⟩
  cases h with
  | setLeasePeriod p hr => exact ⟨hr, hd, hl⟩
  | setDeadlines v hv => exact ⟨hp, hv, hl⟩
  | setLimits m l hq hw hst =>
    refine ⟨hp, hd, fun a => ?_⟩
    have e : State.limits { s with control := { s.control with limits := s.control.limits.set m l } } a =
        if a = m then l else s.limits a := by
      exact vector_getElem_set ..
    rw [e]
    split
    · exact ⟨hq, hw, hst⟩
    · exact hl a
  | finish => exact same rfl rfl rfl rfl
  | takeOperation => exact same rfl rfl rfl rfl
  | _ => exact same (c := s.control) (by simp [State.grantSlot, State.decremented]) rfl rfl rfl

/-- The settings of R177 and R164 at power-on lie in their ranges. -/
theorem ControlUnit.powerOn_inRange :
    (1 ≤ ControlUnit.powerOn.leasePeriod ∧ ControlUnit.powerOn.leasePeriod ≤ 1000) ∧
    (∀ d : DeadlineClass,
      10 ≤ ControlUnit.powerOn.deadlines[d] ∧ ControlUnit.powerOn.deadlines[d] ≤ 1000000) ∧
    ∀ m : Master,
      (1 ≤ ControlUnit.powerOn.limits[m].quota ∧ ControlUnit.powerOn.limits[m].quota ≤ 64) ∧
      (1 ≤ ControlUnit.powerOn.limits[m].weight ∧ ControlUnit.powerOn.limits[m].weight ≤ 8) ∧
      (1 ≤ ControlUnit.powerOn.limits[m].stall ∧ ControlUnit.powerOn.limits[m].stall ≤ 250) := by
  decide

theorem State.powerOn_settingsLaw (straps : Straps) : (State.powerOn straps).SettingsLaw :=
  ControlUnit.powerOn_inRange

end

/-- Settles O54: a lease goes to an admin master alone (R25), and the settings operations check the ranges
(R186 to R188). -/
theorem everyStepKeepsHolderAndSettings : Obligations.EveryStepKeepsHolderAndSettings :=
  ⟨fun _ _ => step_keeps (fun _ _ h hs => hs.move h) (fun _ _ h hs => hs.planeMove h)
      (fun _ _ _ h => h) fun straps _ _ _ => State.powerOn_holderLaw straps,
    fun _ _ => step_keeps (fun _ _ h hs => hs.move h)
      (fun _ _ h hs => by
        simp only [State.SettingsLaw, State.classValue, State.limits, h.control]
        exact hs)
      (fun _ _ _ h => h) fun straps _ _ _ => State.powerOn_settingsLaw straps⟩

end Sys2Proof.Machine

namespace Sys2Proof.Machine

/-! ### The window map -/

section

variable {s t : State}

theorem State.other_ne_live (s : State) : s.other ≠ s.live := otherPlane_ne _

@[simp] theorem State.flip_live (s : State) : s.flip.live = s.other := by
  simp only [State.live, State.other, State.flip, State.notifyAll_generation]
  exact livePlane_succ _

@[simp] theorem State.flip_other (s : State) : s.flip.other = s.live := by
  rw [State.other, State.flip_live, State.other, otherPlane_otherPlane]

theorem State.flip_generation (s : State) : s.flip.generation = s.generation + 1 := by
  simp [State.flip]

@[simp] theorem State.reconcile_live (s : State) : s.reconcile.live = s.live := by
  simp only [State.live, State.reconcile_generation]

@[simp] theorem State.reconcile_other (s : State) : s.reconcile.other = s.other := by
  simp only [State.other, State.reconcile_live]

theorem State.reconcile_planes (s : State) :
    s.reconcile.planes = s.planes.set s.other s.planes[s.live] := by
  simp [State.reconcile, State.copyLive]

theorem State.reconcile_planeState (s : State) : s.reconcile.planeState = .steady := by
  simp [State.reconcile]

theorem State.planes_set_live (s : State) (p : Plane) :
    (s.planes.set s.other p)[s.live] = s.planes[s.live] := by
  rw [vector_getElem_set, if_neg s.other_ne_live.symm]

theorem State.reconcile_planes_live (s : State) :
    s.reconcile.planes[s.reconcile.live] = s.planes[s.live] := by
  simp only [State.reconcile_live, State.reconcile_planes, State.planes_set_live]

theorem State.flip_planes_live (s : State) : s.flip.planes[s.flip.live] = s.planes[s.other] := by
  simp only [State.flip_live, State.flip_planes]

/-- A switch, IMMEDIATE or complete, makes the plane live that was staged (R31). -/
theorem State.completeSwitch_live (s : State) :
    s.completeSwitch.planes[s.completeSwitch.live] = s.planes[s.other] :=
  (State.reconcile_planes_live _).trans s.flip_planes_live

theorem State.completeSwitch_planes (s : State) :
    s.completeSwitch.planes = s.planes.set s.live s.planes[s.other] := by
  rw [State.completeSwitch, State.reconcile_planes]
  simp only [State.flip_other, State.flip_live, State.flip_planes]

theorem State.completeSwitch_generation (s : State) :
    s.completeSwitch.generation = s.generation + 1 := by
  rw [State.completeSwitch, State.reconcile_generation, State.flip_generation]

theorem State.immediateSwitch_cases (s : State) :
    (s.refCounts[s.live] = 0 ∧ s.immediateSwitch = s.completeSwitch) ∨
    (s.refCounts[s.live] ≠ 0 ∧ s.immediateSwitch = { s.flip with planeState := .draining }) := by
  by_cases h : s.refCounts[s.live] = 0
  · exact .inl ⟨h, by simp only [State.immediateSwitch, h, if_true]; rfl⟩
  · exact .inr ⟨h, by simp only [State.immediateSwitch, h, if_false]⟩

theorem State.OverlapLaw.of_live {s : State} (h : NoOverlap s.planes[s.live])
    (hh : s.planeState.isHolding = false) : s.OverlapLaw :=
  ⟨h, fun ht => by rw [hh] at ht; cases ht⟩

theorem State.OverlapLaw.completeSwitch (h : NoOverlap s.planes[s.other]) :
    s.completeSwitch.OverlapLaw := by
  refine .of_live ?_ ?_
  · rw [State.completeSwitch_live]; exact h
  · rw [State.completeSwitch, State.reconcile_planeState]; rfl

theorem State.OverlapLaw.move (h : Move s t) (hs : s.OverlapLaw) : t.OverlapLaw := by
  simp only [State.OverlapLaw, State.other, State.live, h.planes, h.generation, h.planeState]
  exact hs

theorem State.OverlapLaw.planeMove (h : PlaneMove s t) (hs : s.OverlapLaw) : t.OverlapLaw := by
  obtain ⟨hl, ho⟩ := hs
  cases h with
  | state h => cases h with | mk ps _ _ hn => exact ⟨hl, fun hh => (hn hh).elim ho id⟩
  | edit p hh =>
    refine .of_live ?_ hh
    show NoOverlap (s.planes.set s.other p)[s.live]
    rw [State.planes_set_live]; exact hl
  | reconcile =>
    refine .of_live ?_ (by rw [State.reconcile_planeState]; rfl)
    rw [State.reconcile_planes_live]; exact hl
  | completeSwitch _ hn => exact .completeSwitch (hn.elim ho id)
  | immediateSwitch hn =>
    rcases s.immediateSwitch_cases with ⟨_, e⟩ | ⟨_, e⟩
    · rw [e]; exact .completeSwitch hn
    · rw [e]
      refine .of_live ?_ rfl
      show NoOverlap s.flip.planes[s.flip.live]
      rw [State.flip_planes_live]; exact hn

/-- The boot map has one enabled window at most (R11). -/
theorem bootPlane_noOverlap (straps : Straps) : NoOverlap (bootPlane straps) := by
  have zero : ∀ i : WindowIndex, i ≠ 0 → (bootPlane straps)[i] = Window.zero := by
    intro i hi
    refine (vector_getElem_set (Vector.replicate 32 Window.zero) 0 i (bootWindow straps)).trans ?_
    rw [if_neg hi]
    simp
  intro i j hij
  by_cases hi : i = 0
  · rw [zero j (fun hj => hij (hi.trans hj.symm))]
    simp [Window.overlaps, Window.zero]
  · rw [zero i hi]
    simp [Window.overlaps, Window.zero]

theorem State.powerOn_overlapLaw (straps : Straps) : (State.powerOn straps).OverlapLaw := by
  refine .of_live ?_ rfl
  simpa [State.powerOn] using bootPlane_noOverlap straps

end

/-- Settles O53: the plane that a switch makes live has passed the check of REQUEST_SWITCH, and no command
writes the live plane. -/
theorem everyStepKeepsTheLivePlaneFreeOfOverlap :
    Obligations.EveryStepKeepsTheLivePlaneFreeOfOverlap := fun _ _ =>
  step_keeps (fun _ _ h hs => hs.move h) (fun _ _ h hs => hs.planeMove h) (fun _ _ _ h => h)
    fun straps _ _ _ => State.powerOn_overlapLaw straps

end Sys2Proof.Machine

namespace Sys2Proof.Machine

/-! ### What the part does by itself -/

/-- A command that is an event of a powered part: any but the two of PWRON_N (R193). -/
def takesEvent : Instr → Bool
  | .powerOn _ _ _ _ => false
  | .pwronLow => false
  | _ => true

theorem takesEvent_ne {c : Instr} (h : takesEvent c = true) :
    c ≠ .pwronLow ∧ ∀ a b d e, c ≠ .powerOn a b d e := by
  constructor
  · rintro rfl; cases h
  · rintro a b d e rfl; cases h

/-- No command of a list is one of PWRON_N. -/
def TakeEvents (l : List Instr) : Prop := ∀ c, c ∈ l → takesEvent c = true

namespace TakeEvents

variable {l k : List Instr}

theorem append (h : TakeEvents l) (h' : TakeEvents k) : TakeEvents (l ++ k) := fun c hc =>
  (List.mem_append.mp hc).elim (h c) (h' c)

theorem flatMap {α : Type} {f : α → List Instr} (h : ∀ a, TakeEvents (f a)) (l : List α) :
    TakeEvents (l.flatMap f) := fun c hc => by
  obtain ⟨a, _, ha⟩ := List.mem_flatMap.mp hc
  exact h a c ha

theorem readyIf {c : Instr} (b : Bool) (h : takesEvent c = true) : TakeEvents (readyIf b c) := by
  intro d hd
  cases b with
  | false => cases hd
  | true => rw [List.mem_singleton.mp hd]; exact h

theorem nil : TakeEvents [] := fun _ h => nomatch h

theorem operationCommand (code : Byte) : takesEvent (operationCommand code) = true := by
  unfold Machine.operationCommand
  split <;> rfl

theorem expiriesDue (s : State) : TakeEvents s.expiriesDue := by
  refine append (append ?_ (flatMap (fun i => ?_) _)) (flatMap (fun m => readyIf _ rfl) _)
  · unfold State.planeTimerDue
    split
    · exact readyIf _ rfl
    · exact readyIf _ rfl
    · exact nil
    · exact nil
  · unfold State.entryDue
    split
    · exact nil
    · exact append (append (readyIf _ rfl) (readyIf _ rfl)) (readyIf _ rfl)

theorem masterReady (s : State) (m : Master) : TakeEvents (s.masterReady m) :=
  append (append (append (append (append (append (readyIf _ rfl) (readyIf _ rfl)) (readyIf _ rfl))
    (readyIf _ rfl)) (readyIf _ rfl)) (readyIf _ rfl)) (flatMap (fun _ => readyIf _ rfl) _)

theorem eventsReady (s : State) : TakeEvents s.eventsReady := by
  refine append (append (append (flatMap (masterReady s) _) ?_) (flatMap (fun _ => readyIf _ rfl) _))
    (flatMap (fun _ => readyIf _ rfl) _)
  unfold State.controlReady
  split
  · exact readyIf _ rfl
  · intro c hc
    rw [List.mem_singleton.mp hc]
    exact operationCommand _

end TakeEvents

/-- The free choice picks one of the choices, if there is one. -/
theorem pickChoice_mem (k : Nat) {l : List (Option Instr)} (hl : l ≠ []) : pickChoice k l ∈ l := by
  unfold pickChoice
  split
  · exact absurd rfl hl
  · exact List.mem_singleton_self _
  · next c cs _ =>
    have hk : Config.freeChoice k % (c :: cs).length < (c :: cs).length := Nat.mod_lt _ (by simp)
    rw [List.getD_eq_getElem _ _ hk]
    exact List.getElem_mem hk

theorem State.idleChoices_ne_nil (s : State) : s.idleChoices ≠ [] := by
  unfold State.idleChoices
  cases s.expiriesDue <;> simp

/-- What the part may do by itself: take what is ready or due, or, with no timer due, let time pass (log 3). -/
theorem State.mem_idleChoices {s : State} {c : Option Instr} (h : c ∈ s.idleChoices) :
    (c = none ∧ s.expiriesDue = []) ∨ ∃ d, c = some d ∧ d ∈ s.expiriesDue ++ s.eventsReady := by
  unfold State.idleChoices at h
  rcases List.mem_append.mp h with h | h
  · split at h
    · next he => exact .inl ⟨List.mem_singleton.mp h, List.isEmpty_iff.mp he⟩
    · obtain ⟨d, hd, rfl⟩ := List.mem_map.mp h
      exact .inr ⟨d, rfl, List.mem_append_left _ hd⟩
  · obtain ⟨d, hd, rfl⟩ := List.mem_map.mp h
    exact .inr ⟨d, rfl, List.mem_append_right _ hd⟩

/-- A step on an empty queue (log 3). -/
theorem idleStep_cases {s : State} (hp : s.pwronN = true) :
    (∃ c, c ∈ s.expiriesDue ++ s.eventsReady ∧
      idleStep s = exec c { s with choices := s.choices + 1 }) ∨
    (s.expiriesDue = [] ∧
      idleStep s = .next (State.passTime { s with choices := s.choices + 1 } 1)) := by
  simp only [idleStep, hp, if_true]
  rcases State.mem_idleChoices (pickChoice_mem s.choices s.idleChoices_ne_nil) with
    ⟨e, hd⟩ | ⟨d, e, hd⟩
  · exact .inr ⟨hd, by rw [e]; rfl⟩
  · exact .inl ⟨d, hd, by rw [e]⟩

theorem step_of_nil {s : State} (h : s.pending = []) : step s = idleStep s := by
  rw [step, h]

theorem step_of_cons {s : State} {c : Instr} {l : List Instr} (h : s.pending = c :: l) :
    step s = exec c { s with pending := l } := by
  rw [step, h]

/-- A step without one of the commands of PWRON_N at the front of the queue runs a command of a powered part,
or nothing but the queue, the choice counter and the time have changed. -/
theorem step_runs {s t : State} (h : step s = .next t) (h1 : s.pending.head? ≠ some .pwronLow)
    (h2 : ∀ a b d e, s.pending.head? ≠ some (.powerOn a b d e)) :
    ∃ k l, (∃ c, takesEvent c = true ∧ exec c { s with choices := k, pending := l } = .next t) ∨
      ∃ d, t = State.passTime { s with choices := k, pending := l } d ∨
        t = { s with choices := k, pending := l } := by
  cases hl : s.pending with
  | nil =>
    rw [step_of_nil hl] at h
    by_cases hp : s.pwronN = true
    · rcases idleStep_cases hp with ⟨c, hc, e⟩ | ⟨_, e⟩
      · exact ⟨s.choices + 1, s.pending, .inl ⟨c,
          (TakeEvents.append (.expiriesDue s) (.eventsReady s)) c hc, e.symm.trans h⟩⟩
      · rw [e] at h; cases h
        exact ⟨s.choices + 1, s.pending, .inr ⟨1, .inl rfl⟩⟩
    · simp only [idleStep, hp] at h
      cases h
      exact ⟨s.choices, s.pending, .inr ⟨0, .inr rfl⟩⟩
  | cons c l =>
    rw [step_of_cons hl] at h
    rw [hl] at h1 h2
    refine ⟨s.choices, l, .inl ⟨c, ?_, h⟩⟩
    cases c with
    | powerOn a b d e => exact absurd rfl (h2 a b d e)
    | pwronLow => exact absurd rfl h1
    | _ => rfl

end Sys2Proof.Machine

namespace Sys2Proof.Machine

/-! ### What an event does to the window map -/

/-- The window map over one event (R1, R2, R19, R21, R31, R41): it stays; the staged plane is edited; the old
plane is settled; the planes change roles; or they do and settle at once. A plane is overwritten with the live
one only when every reference to it has been given back. -/
inductive MapStep (s t : State) : Prop
  | same (hp : t.planes = s.planes) (hg : t.generation = s.generation)
  | edit (p : Plane) (hd : s.planeState ≠ .draining) (hp : t.planes = s.planes.set s.other p)
      (hg : t.generation = s.generation)
  | settle (hc : s.refCounts[s.other] ≤ s.decrements[s.other])
      (hp : t.planes = s.planes.set s.other s.planes[s.live]) (hg : t.generation = s.generation)
  | flip (hp : t.planes = s.planes) (hg : t.generation = s.generation + 1)
  | flipSettle (hc : s.refCounts[s.live] ≤ s.decrements[s.live])
      (hp : t.planes = s.planes.set s.live s.planes[s.other]) (hg : t.generation = s.generation + 1)

namespace MapStep

variable {s t u : State}

theorem refl (s : State) : MapStep s s := .same rfl rfl

theorem congr (h : MapStep s t) (hp : u.planes = t.planes) (hg : u.generation = t.generation) :
    MapStep s u := by
  cases h with
  | same hp' hg' => exact .same (hp.trans hp') (hg.trans hg')
  | edit p hd hp' hg' => exact .edit p hd (hp.trans hp') (hg.trans hg')
  | settle hc hp' hg' => exact .settle hc (hp.trans hp') (hg.trans hg')
  | flip hp' hg' => exact .flip (hp.trans hp') (hg.trans hg')
  | flipSettle hc hp' hg' => exact .flipSettle hc (hp.trans hp') (hg.trans hg')

theorem finish (h : MapStep s t) (op : Operation) (code : ResultCode) (record : ResultRecord) :
    MapStep s (t.finish op code record) := h.congr (by simp) (by simp)

theorem renewLease (h : MapStep s t) (op : Operation) : MapStep s (t.renewLease op) :=
  h.congr (by simp) (by simp)

theorem quiet (h : QuietEvent s t) : MapStep s t := by
  have kept : t.planes = s.planes ∧ t.generation = s.generation :=
    h.keeps (P := fun u => u.planes = s.planes ∧ u.generation = s.generation)
      (fun _ _ h hs => ⟨h.planes.trans hs.1, h.generation.trans hs.2⟩)
      (fun _ _ h hs => by cases h; exact hs) (fun _ _ hs => hs) ⟨rfl, rfl⟩
  exact .same kept.1 kept.2

theorem of_takeEvent {f : State → State} (h : takeEvent s f = .next t) (hf : MapStep s (f s)) :
    MapStep s t := by
  rcases takeEvent_cases h with ⟨_, rfl⟩ | ⟨_, rfl⟩
  · exact hf
  · exact refl _

theorem of_carryOut {e : Entry} {na : State → ResultRecord} {of own : Operation → State → State}
    (h : carryOut e na of own s = .next t) (hof : ∀ op, MapStep s (of op s))
    (hown : ∀ op, MapStep s (own op s)) : MapStep s t := by
  refine of_takeEvent h ?_
  cases s.control.op with
  | none => exact refl s
  | some op =>
    dsimp only
    split
    · exact refl s
    split
    · exact (refl s).finish ..
    split
    · exact (hof op).finish ..
    · exact hown op

theorem edited (hd : s.planeState ≠ .draining) (p : Plane) :
    MapStep s { s with planes := s.planes.set s.other p } := .edit p hd rfl rfl

theorem asEditor (op : Operation) {own : State → State}
    (hown : s.planeState ≠ .draining → MapStep s (own s)) : MapStep s (s.asEditor op own) := by
  have refused : ∀ code record, MapStep s (s.finish op code record) := (refl s).finish op
  unfold State.asEditor
  cases hp : s.planeState with
  | steady => exact refused ..
  | draining => exact refused ..
  | holding => dsimp only; split <;> exact refused ..
  | editing =>
    dsimp only
    split
    · exact hown (by simp [hp])
    · exact refused ..

theorem completeSwitch (hc : s.refCounts[s.live] ≤ s.decrements[s.live]) :
    MapStep s s.completeSwitch :=
  .flipSettle hc s.completeSwitch_planes s.completeSwitch_generation

theorem immediateSwitch (s : State) : MapStep s s.immediateSwitch := by
  rcases s.immediateSwitch_cases with ⟨hz, e⟩ | ⟨_, e⟩
  · rw [e]; exact completeSwitch (hz ▸ Nat.zero_le _)
  · rw [e]; exact .flip s.flip_planes s.flip_generation

theorem quiescedSwitch (s : State) (m : Master) (limit : Nat) :
    MapStep s (s.quiescedSwitch m limit) := by
  unfold State.quiescedSwitch
  split
  · next hz => exact completeSwitch (hz ▸ Nat.zero_le _)
  · exact .same rfl rfl

theorem switchBy (s : State) (op : Operation) : MapStep s (s.switchBy op) := by
  have refused : ∀ code record, MapStep s ((s.renewLease op).finish op code record) :=
    ((refl s).renewLease op).finish op
  unfold State.switchBy
  cases modeOf (op.byte 0) with
  | none => exact refused ..
  | some mode =>
    dsimp only
    split
    · exact refused ..
    split
    · exact refused ..
    cases mode with
    | immediate => exact (immediateSwitch s).finish ..
    | quiesced => exact (quiescedSwitch s ..).finish ..

theorem takeDecrement {p : PlaneId} (hd : s.decrements[p] ≠ 0) : MapStep s (s.takeDecrement p) := by
  rw [State.takeDecrement_eq]
  have same : MapStep s (s.decremented p) := .same rfl rfl
  split
  · next hz =>
    have counted : s.refCounts[p] ≤ s.decrements[p] := by omega
    unfold State.countZero
    rw [State.decremented_planeState]
    cases hp : s.planeState with
    | steady => exact same
    | editing => exact same
    | draining =>
      dsimp only
      split
      · next he =>
        rw [State.decremented_other] at he
        exact .settle (he ▸ counted) (State.reconcile_planes _) (State.reconcile_generation _)
      · exact same
    | holding =>
      dsimp only
      split
      · next he =>
        rw [State.decremented_live] at he
        refine .flipSettle (he ▸ counted) ?_ ?_
        · rw [State.resumeHeads_planes]; exact State.completeSwitch_planes _
        · rw [State.resumeHeads_generation]; exact State.completeSwitch_generation _
      · exact same
  · exact same

end MapStep

/-- Every command but the two of PWRON_N is a step of the window map. -/
theorem exec_mapStep (c : Instr) {s t : State} (h1 : c ≠ .pwronLow)
    (h2 : ∀ a b d e, c ≠ .powerOn a b d e) (h : exec c s = .next t) : MapStep s t := by
  have renewed : ∀ op, MapStep s (s.renewLease op) := (MapStep.refl s).renewLease
  have putWindow (h : execPutWindow s = .next t) : MapStep s t := by
    refine .of_carryOut h renewed fun op => .asEditor op fun hd => ?_
    split
    · exact (renewed op).finish ..
    · exact ((MapStep.edited hd _).renewLease op).finish ..
  have revertStaged (h : execRevertStaged s = .next t) : MapStep s t :=
    .of_carryOut h renewed fun op => .asEditor op fun hd =>
      ((MapStep.edited hd s.planes[s.live]).renewLease op).finish ..
  have requestSwitch (h : execRequestSwitch s = .next t) : MapStep s t := by
    refine .of_carryOut h renewed fun op => ?_
    have refused : ∀ code record, MapStep s (s.finish op code record) := (MapStep.refl s).finish op
    cases hp : s.planeState with
    | steady => exact refused ..
    | draining => exact refused ..
    | holding => dsimp only; split <;> exact refused ..
    | editing =>
      dsimp only
      split
      · exact .switchBy s op
      · exact refused ..
  have planeCountDecrement (p : PlaneId) (h : execPlaneCountDecrement p s = .next t) :
      MapStep s t := by
    refine .of_takeEvent h ?_
    split
    · exact .refl s
    · next hd => exact .takeDecrement hd
  by_cases hw : writesMap c = false
  · exact .quiet (exec_quiet c h1 h2 hw h)
  · cases c with
    | putWindow => exact putWindow h
    | revertStaged => exact revertStaged h
    | requestSwitch => exact requestSwitch h
    | planeCountDecrement p => exact planeCountDecrement p h
    | _ => exact absurd rfl hw

theorem MapStep.of_queue {s t : State} {k : Nat} {l : List Instr}
    (h : MapStep { s with choices := k, pending := l } t) : MapStep s t := by
  cases h with
  | same hp hg => exact .same hp hg
  | edit p hd hp hg => exact .edit p hd hp hg
  | settle hc hp hg => exact .settle hc hp hg
  | flip hp hg => exact .flip hp hg
  | flipSettle hc hp hg => exact .flipSettle hc hp hg

/-- A step without one of the commands of PWRON_N at the front of the queue is a step of the window map. -/
theorem step_mapStep {s t : State} (h : step s = .next t) (h1 : s.pending.head? ≠ some .pwronLow)
    (h2 : ∀ a b d e, s.pending.head? ≠ some (.powerOn a b d e)) : MapStep s t := by
  obtain ⟨k, l, ⟨c, hc, h⟩ | ⟨d, rfl | rfl⟩⟩ := step_runs h h1 h2
  · obtain ⟨n1, n2⟩ := takesEvent_ne hc
    exact (exec_mapStep c n1 n2 h).of_queue
  · exact .same (by simp) (by simp)
  · exact .same rfl rfl

/-- A step with one of the commands of PWRON_N at the front of the queue leaves every ORT entry FREE (R93,
R193). -/
theorem step_power {s t : State} (h : step s = .next t)
    (hp : ¬(s.pending.head? ≠ some .pwronLow ∧
      ∀ a b d e, s.pending.head? ≠ some (.powerOn a b d e))) (i : OrtIndex) :
    (t.entry i).use = none := by
  have free : ∀ straps, ((State.powerOn straps).entry i).use = none := by
    simp [State.powerOn, State.entry, OrtEntry.powerOn]
  cases hl : s.pending with
  | nil => exact absurd ⟨by simp [hl], by simp [hl]⟩ hp
  | cons c l =>
    rw [step_of_cons hl] at h
    by_cases hc : takesEvent c = true
    · obtain ⟨n1, n2⟩ := takesEvent_ne hc
      refine absurd ⟨by simpa [hl] using n1, fun a b d e he => n2 a b d e ?_⟩ hp
      simpa [hl] using he
    · cases c with
      | powerOn a b d e => cases h; exact free ⟨a, b, d, e⟩
      | pwronLow => cases h; exact free Straps.none
      | _ => exact absurd rfl hc

/-! ### The two statements about the map -/

theorem MapStep.live_whole {s t : State} (h : MapStep s t) :
    (t.generation = s.generation ∧ t.planes[t.live] = s.planes[s.live]) ∨
    (t.generation = s.generation + 1 ∧ t.live = s.other ∧ t.planes[t.live] = s.planes[s.other]) := by
  have kept : t.generation = s.generation → t.live = s.live := fun hg => by
    simp only [State.live, hg]
  have next : t.generation = s.generation + 1 → t.live = s.other := fun hg => by
    simp only [State.live, State.other, hg, livePlane_succ]
  cases h with
  | same hp hg => exact .inl ⟨hg, by simp only [kept hg, hp]⟩
  | edit p hd hp hg => exact .inl ⟨hg, by simp only [kept hg, hp, State.planes_set_live]⟩
  | settle hc hp hg => exact .inl ⟨hg, by simp only [kept hg, hp, State.planes_set_live]⟩
  | flip hp hg => exact .inr ⟨hg, next hg, by simp only [next hg, hp]⟩
  | flipSettle hc hp hg =>
    refine .inr ⟨hg, next hg, ?_⟩
    simp only [next hg, hp]
    rw [vector_getElem_set, if_neg s.other_ne_live]

/-- Settles O59: of the five ways an event treats the map, two flip, and none writes the live plane. -/
theorem livePlaneChangesOnlyAsAWhole : Obligations.LivePlaneChangesOnlyAsAWhole :=
  fun _ _ h2 h1 h => (step_mapStep h h1 h2).live_whole

/-- The plane of an entry in flight is counted, beyond the decrements on their way (R39). -/
theorem State.CountLaw.counted {s : State} (hc : s.CountLaw) {i : OrtIndex} {u : OrtUse}
    (hu : (s.entry i).use = some u) (hp : u.phase.counted = true) :
    s.decrements[u.plane] < s.refCounts[u.plane] := by
  have pos : 0 < ortIndices.countP (s.namesPlane u.plane) :=
    List.countP_pos_iff.mpr ⟨i, List.mem_finRange i, by simp [State.namesPlane, hu, hp]⟩
  have := hc.1 u.plane
  omega

theorem MapStep.window_kept {s t : State} (h : MapStep s t) (hc : s.CountLaw) {p : PlaneId}
    (hp : s.decrements[p] < s.refCounts[p]) (w : WindowIndex) : t.window p w = s.window p w := by
  have kept : ∀ {q : PlaneId} {x : Plane}, p ≠ q → t.planes = s.planes.set q x →
      t.window p w = s.window p w := fun hq e => by
    unfold State.window
    simp only [e, vector_getElem_set, if_neg hq]
  cases h with
  | same e => simp only [State.window, e]
  | flip e => simp only [State.window, e]
  | edit x hd e =>
    refine kept (fun hq => ?_) e
    have := hc.2 hd
    rw [hq] at hp
    omega
  | settle hz e => exact kept (fun hq => absurd (hq ▸ hp) (Nat.not_lt.mpr hz)) e
  | flipSettle hz e => exact kept (fun hq => absurd (hq ▸ hp) (Nat.not_lt.mpr hz)) e

/-- Settles O58: a plane is overwritten only when its count shows no entry in flight (R17, R39). -/
theorem windowInFlightIsUnchanged : Obligations.WindowInFlightIsUnchanged := by
  intro s t i u hc hu hp h hn
  by_cases h12 : s.pending.head? ≠ some .pwronLow ∧
      ∀ a b d e, s.pending.head? ≠ some (.powerOn a b d e)
  · exact (step_mapStep h h12.1 h12.2).window_kept hc (hc.counted hu hp) u.window
  · exact absurd (step_power h h12 i) hn

end Sys2Proof.Machine

namespace Sys2Proof.Machine

/-! ### Counts over the ORT -/

section

variable {s t : State} {i : OrtIndex} {u : OrtUse}

/-- A sum over the ORT in which one term changes. -/
theorem sum_ort_update {f g : OrtIndex → Nat} (i : OrtIndex) (h : ∀ j, j ≠ i → g j = f j) :
    (ortIndices.map g).sum + f i = (ortIndices.map f).sum + g i := by
  have split : ∀ f : OrtIndex → Nat,
      (ortIndices.map f).sum = ∑ j ∈ Finset.univ.erase i, f j + f i := fun f => by
    rw [ortIndices, ← Fin.sum_univ_def, Finset.sum_erase_add _ _ (Finset.mem_univ i)]
  have same : ∑ j ∈ Finset.univ.erase i, g j = ∑ j ∈ Finset.univ.erase i, f j :=
    Finset.sum_congr rfl fun j hj => h j (Finset.ne_of_mem_erase hj)
  rw [split f, split g, same]
  omega

/-- A count over the ORT in which the answer at one index changes. -/
theorem countP_ort_update {p q : OrtIndex → Bool} (i : OrtIndex) (h : ∀ j, j ≠ i → q j = p j) :
    ortIndices.countP q + (p i).toNat = ortIndices.countP p + (q i).toNat := by
  have e : ∀ p : OrtIndex → Bool, ortIndices.countP p = (ortIndices.map fun j => (p j).toNat).sum := by
    intro p
    rw [countP_eq_sum]
    congr 1
    exact List.map_congr_left fun j _ => by cases p j <;> rfl
  rw [e p, e q]
  exact sum_ort_update (f := fun j => (p j).toNat) (g := fun j => (q j).toNat) i
    fun j hj => congrArg Bool.toNat (h j hj)

end

theorem OrtPhase.counted_of_inLane {p : OrtPhase} (h : p.inLane = true) : p.counted = true := by
  cases p <;> simp_all [OrtPhase.inLane, OrtPhase.counted]

/-! ### The laws of the ORT and its counts -/

/-- What admission takes from the table: the entry, the held count, the blocks, the lane place and the plane
reference (R63). -/
def State.admitted (s : State) (m : Master) (q : Request) (r : Routing) (k : Kind) (i : OrtIndex) :
    State :=
  let u := s.newUse m q r k
  let s := { s with ort := s.ort.set i { reuse := (s.entry i).reuse + 1, use := some u } }
  let s := s.setHeld m (s.held[m] + 1)
  let s := { s with freeBlocks := s.freeBlocks - u.blocks }
  let s := s.setLane r.target m (s.lane r.target m ++ [i])
  s.setCount r.plane (s.refCounts[r.plane] + 1)

theorem State.admitHead_eq (s : State) (m : Master) (q : Request) (r : Routing) (k : Kind)
    (i : OrtIndex) : s.admitHead m q r k i =
      ((s.admitted m q r k i).modResp m fun x => x.admitHead i q k).dataLeaves m := rfl

/-- The entry at `i` enters BACKOFF at the head of its lane (R81). -/
def State.backedOff (s : State) (i : OrtIndex) (u : OrtUse) (d b n : Nat) : State :=
  (s.setLane u.target u.master (i :: s.lane u.target u.master)).setUse i
    (some { u with phase := .backoff d b, retries := n })

/-- The entry at `i` leaves its lane for ISSUED (R108). -/
def State.leftLane (s : State) (t : Target) (m : Master) (i : OrtIndex) (u : OrtUse) (d : Nat) : State :=
  (s.setLane t m ((s.lane t m).erase i)).setUse i (some { u with phase := .issued d })

/-- What a law of the ORT, the lanes and their counts has to keep to hold after every move. -/
structure TableLaw (P : State → Prop) : Prop where
  congr : ∀ s t : State, t.ort = s.ort → t.held = s.held → t.freeBlocks = s.freeBlocks →
    t.lanes = s.lanes → t.refCounts = s.refCounts → t.decrements = s.decrements → P s → P t
  decrement : ∀ (s : State) (p : PlaneId), s.decrements[p] ≠ 0 → P s → P (s.decremented p)
  retire : ∀ (s : State) (i : OrtIndex) (u : OrtUse), (s.entry i).use = some u →
    u.phase.counted = true → P s → P (s.retire i u)
  lapse : ∀ (s : State) (i : OrtIndex) (u : OrtUse), (s.entry i).use = some u →
    u.phase.isIssued = true → P s → P (s.lapse i u)
  clear : ∀ (s : State) (i : OrtIndex) (u : OrtUse), (s.entry i).use = some u →
    u.phase.counted = false → P s → P (s.clearEntry i u)
  silence : ∀ (s : State) (i : OrtIndex) (u : OrtUse), (s.entry i).use = some u →
    P s → P (s.setUse i (some { u with failureReporting := false }))
  backOff : ∀ (s : State) (i : OrtIndex) (u : OrtUse) (d b n : Nat), (s.entry i).use = some u →
    u.phase = .issued d → (s.lane u.target u.master).length < 16 → P s → P (s.backedOff i u d b n)
  endBackoff : ∀ (s : State) (i : OrtIndex) (u : OrtUse) (d b : Nat), (s.entry i).use = some u →
    u.phase = .backoff d b → P s → P (s.setUse i (some { u with phase := .waiting d }))
  issue : ∀ (s : State) (t : Target) (m : Master) (i : OrtIndex) (u : OrtUse) (d : Nat),
    (s.entry i).use = some u → u.phase = .waiting d → i ∈ s.lane t m → P s → P (s.leftLane t m i u d)
  admission : ∀ (s : State) (m : Master) (q : Request) (r : Routing) (k : Kind) (i : OrtIndex),
    (s.entry i).use = none → s.hasRoom m q r = true → P s → P (s.admitted m q r k i)

namespace TableLaw

variable {P : State → Prop} {s t : State}

theorem flushEntry (h : TableLaw P) (m : Master) (s : State) (i : OrtIndex) (hs : P s) :
    P (State.flushEntry m s i) := by
  unfold State.flushEntry
  split
  · exact hs
  · next u hu =>
    split
    · split
      · split
        · exact h.silence s i u hu hs
        · exact hs
      · split
        · split
          · next hl => exact h.retire s i u hu (OrtPhase.counted_of_inLane hl) hs
          · split
            · next hi => exact h.lapse s i u hu hi hs
            · exact hs
        · exact hs
    · exact hs

theorem flushPort (h : TableLaw P) (m : Master) (d : PortState) (hs : P s) : P (s.flushPort m d) := by
  have flushed : P ((s.portFlushed m d).flushOrt m) := by
    unfold State.flushOrt
    exact foldl_keeps_law P (h.flushEntry m) _ _ (h.congr s (s.portFlushed m d) rfl rfl rfl rfl rfl rfl hs)
  have reported : ∀ (u : State) (v : Vector Nat 4), P u → P { u with flushReports := v } :=
    fun u _ => h.congr u _ rfl rfl rfl rfl rfl rfl
  rw [State.flushPort_eq]
  exact reported _ _ flushed

theorem move (h : TableLaw P) (hm : Move s t) (hs : P s) : P t := by
  cases hm with
  | flushPort m d => exact h.flushPort m d hs
  | decrement p hd => exact h.decrement s p hd hs
  | retire i u hu hc => exact h.retire s i u hu hc hs
  | lapse i u hu hp => exact h.lapse s i u hu hp hs
  | clearEntry i u hu hc => exact h.clear s i u hu hc hs
  | backOff i u d b n hu hp hl => exact h.backOff s i u d b n hu hp hl hs
  | endBackoff i u d b hu hp => exact h.endBackoff s i u d b hu hp hs
  | issue a m i run d u hu hp hl =>
    have left := h.issue s a m i u d hu hp hl hs
    have same : u.phase.issue = .issued d := by rw [hp]; rfl
    refine h.congr (s.leftLane a m i u d) _ ?_ rfl rfl rfl rfl rfl left
    simp only [State.issue, same]
    rfl
  | admission m q r k i _ _ _ _ hi hr =>
    rw [State.admitHead_eq]
    exact h.congr _ _ (by simp) (by simp) (by simp) (by simp) (by simp) (by simp)
      (h.admission s m q r k i hi hr hs)
  | _ => refine h.congr s _ ?_ ?_ ?_ ?_ ?_ ?_ hs <;> simp [State.grantSlot, State.takeOperation]

theorem planeMove (h : TableLaw P) (hm : PlaneMove s t) (hs : P s) : P t := by
  rcases hm with ⟨⟨⟩⟩ | _ | _ | _ | _ <;>
    exact h.congr s _ (by simp) (by simp) (by simp) (by simp) (by simp) (by simp) hs

/-- A law of the table that holds of the table at power-on is kept by every step. -/
theorem step (h : TableLaw P) (h0 : ∀ straps, P (State.powerOn straps)) (hs : P s)
    (hst : Machine.step s = .next t) : P t :=
  step_keeps (fun _ _ => h.move) (fun _ _ => h.planeMove)
    (fun s _ _ => h.congr s _ rfl rfl rfl rfl rfl rfl)
    (fun straps _ _ _ => h.congr (State.powerOn straps) _ rfl rfl rfl rfl rfl rfl (h0 straps)) hs hst

end TableLaw
end Sys2Proof.Machine

namespace Sys2Proof.Machine

/-! ### One entry changes -/

section

variable {s t : State} {i j : OrtIndex} {u : OrtUse}

theorem State.entry_backedOff (s : State) (i j : OrtIndex) (u : OrtUse) (d b n : Nat) :
    (s.backedOff i u d b n).entry j =
      if j = i then { s.entry i with use := some { u with phase := .backoff d b, retries := n } }
      else s.entry j := State.entry_setUse _ i j _

theorem State.entry_leftLane (s : State) (a : Target) (m : Master) (i j : OrtIndex) (u : OrtUse) (d : Nat) :
    (s.leftLane a m i u d).entry j =
      if j = i then { s.entry i with use := some { u with phase := .issued d } } else s.entry j :=
  State.entry_setUse _ i j _

theorem State.entry_admitted (s : State) (m : Master) (q : Request) (r : Routing) (k : Kind)
    (i j : OrtIndex) : (s.admitted m q r k i).entry j =
      if j = i then { reuse := (s.entry i).reuse + 1, use := some (s.newUse m q r k) } else s.entry j :=
  vector_getElem_set s.ort i j _

/-! ### The held counts (R91) -/

theorem State.heldBy_of_some (h : (s.entry i).use = some u) (m : Master) :
    s.heldBy m i = (u.master == m) := by
  simp only [State.heldBy, h]

theorem State.heldBy_of_none (h : (s.entry i).use = none) (m : Master) : s.heldBy m i = false := by
  simp only [State.heldBy, h]

theorem State.HeldLaw.update (hs : s.HeldLaw) (i : OrtIndex)
    (hne : ∀ j, j ≠ i → t.entry j = s.entry j)
    (hh : ∀ m : Master, t.held[m] + (s.heldBy m i).toNat = s.held[m] + (t.heldBy m i).toNat) :
    t.HeldLaw := by
  intro m
  have count := countP_ort_update (p := s.heldBy m) (q := t.heldBy m) i fun j hj => by
    rw [State.heldBy, State.heldBy, hne j hj]
  have := hs m
  have := hh m
  omega

/-- An entry rewritten for the same master leaves the held counts as they are. -/
theorem State.HeldLaw.rewrite {v : OrtUse} (hs : s.HeldLaw) (hu : (s.entry i).use = some u)
    (he : ∀ j, t.entry j = if j = i then { s.entry i with use := some v } else s.entry j)
    (hm : v.master = u.master) (hh : t.held = s.held) : t.HeldLaw := by
  refine hs.update i (fun j hj => by rw [he, if_neg hj]) fun m => ?_
  have hv : (t.entry i).use = some v := by rw [he, if_pos rfl]
  rw [State.heldBy_of_some hu, State.heldBy_of_some hv, hm, hh]

/-- An entry that loses its fields falls out of its master's held count. -/
theorem State.HeldLaw.free (hs : s.HeldLaw) (hu : (s.entry i).use = some u)
    (he : ∀ j, t.entry j = if j = i then { s.entry i with use := none } else s.entry j)
    (hh : ∀ m : Master, t.held[m] = s.held[m] - if u.master = m then 1 else 0) : t.HeldLaw := by
  refine hs.update i (fun j hj => by rw [he, if_neg hj]) fun m => ?_
  have hv : (t.entry i).use = none := by rw [he, if_pos rfl]
  rw [State.heldBy_of_some hu, State.heldBy_of_none hv, hh m]
  by_cases hm : u.master = m
  · have pos : 0 < ortIndices.countP (s.heldBy m) :=
      List.countP_pos_iff.mpr ⟨i, List.mem_finRange i, by simp [State.heldBy_of_some hu, hm]⟩
    have := hs m
    simp only [hm, if_true, beq_self_eq_true, Bool.toNat_true, Bool.toNat_false]
    omega
  · simp [hm]

theorem heldLaw_table : TableLaw State.HeldLaw where
  congr s t ho hh _ _ _ _ hs m := by
    have holders : t.heldBy m = s.heldBy m := funext fun i => by
      simp only [State.heldBy, State.entry_congr ho]
    rw [hh, hs m, holders]
  decrement _ _ _ hs := hs
  retire s i u hu _ hs :=
    hs.free hu (s.entry_retire i u) fun m => by
      rw [State.retire, State.clearEntry_heldAt, State.release_held]
  lapse s i u hu _ hs := hs.rewrite hu (s.entry_lapse i u) rfl (by simp)
  clear s i u hu _ hs := hs.free hu (fun j => s.entry_clearEntry i j u) (s.clearEntry_heldAt i u)
  silence s i u hu hs := hs.rewrite hu (fun j => s.entry_setUse i j _) rfl rfl
  backOff s i u d b n hu _ _ hs := hs.rewrite hu (fun j => s.entry_backedOff i j u d b n) rfl rfl
  endBackoff s i u d b hu _ hs := hs.rewrite hu (fun j => s.entry_setUse i j _) rfl rfl
  issue s a m i u d hu _ _ hs := hs.rewrite hu (fun j => s.entry_leftLane a m i j u d) rfl rfl
  admission s m q r k i hu _ hs := by
    have he := fun j => s.entry_admitted m q r k i j
    refine hs.update i (fun j hj => by rw [he, if_neg hj]) fun a => ?_
    have hv : ((s.admitted m q r k i).entry i).use = some (s.newUse m q r k) := by rw [he, if_pos rfl]
    have held : (s.admitted m q r k i).held[a] = if a = m then s.held[m] + 1 else s.held[a] :=
      s.setHeld_held m a _
    rw [State.heldBy_of_none hu, State.heldBy_of_some hv, held]
    by_cases ha : a = m
    · simp [ha, State.newUse]
    · simp [ha, State.newUse, Ne.symm ha]

/-! ### The Data Pool (R92) -/

theorem State.blocksAt_of_some (h : (s.entry i).use = some u) : s.blocksAt i = u.blocks := by
  simp only [State.blocksAt, h]

theorem State.blocksAt_of_none (h : (s.entry i).use = none) : s.blocksAt i = 0 := by
  simp only [State.blocksAt, h]

theorem State.PoolLaw.update (hs : s.PoolLaw) (i : OrtIndex)
    (hne : ∀ j, j ≠ i → t.entry j = s.entry j)
    (hf : t.freeBlocks + t.blocksAt i = s.freeBlocks + s.blocksAt i)
    (hi : ∀ v, (t.entry i).use = some v → v.phase.counted = false → v.blocks = 0) : t.PoolLaw := by
  obtain ⟨h1, h2⟩ := hs
  refine ⟨?_, fun j v hv hc => ?_⟩
  · have sum := sum_ort_update (f := s.blocksAt) (g := t.blocksAt) i fun j hj => by
      rw [State.blocksAt, State.blocksAt, hne j hj]
    omega
  · by_cases hj : j = i
    · exact hi v (hj ▸ hv) hc
    · exact h2 j v (hne j hj ▸ hv) hc

/-- An entry rewritten with its blocks leaves the Data Pool as it is. -/
theorem State.PoolLaw.rewrite {v : OrtUse} (hs : s.PoolLaw) (hu : (s.entry i).use = some u)
    (he : ∀ j, t.entry j = if j = i then { s.entry i with use := some v } else s.entry j)
    (hb : v.blocks = u.blocks) (hc : u.phase.counted = v.phase.counted)
    (hf : t.freeBlocks = s.freeBlocks) : t.PoolLaw := by
  have hv : (t.entry i).use = some v := by rw [he, if_pos rfl]
  refine hs.update i (fun j hj => by rw [he, if_neg hj]) ?_ fun w hw hcw => ?_
  · rw [State.blocksAt_of_some hu, State.blocksAt_of_some hv, hb, hf]
  · rw [hv] at hw
    cases hw
    rw [hb]
    exact hs.2 i u hu (hc.trans hcw)

theorem poolLaw_table : TableLaw State.PoolLaw where
  congr s t ho _ hf _ _ _ hs := by
    have entries : t.entry = s.entry := funext fun i => State.entry_congr ho i
    have blocks : t.blocksAt = s.blocksAt := funext fun i => by
      rw [State.blocksAt, State.blocksAt, entries]
    rw [State.PoolLaw, entries, blocks, hf]
    exact hs
  decrement _ _ _ hs := hs
  retire s i u hu _ hs := by
    have hv : ((s.retire i u).entry i).use = none := by rw [s.entry_retire, if_pos rfl]
    refine hs.update i (fun j hj => by rw [s.entry_retire, if_neg hj]) ?_ (by simp [hv])
    rw [State.blocksAt_of_some hu, State.blocksAt_of_none hv, State.retire,
      State.clearEntry_freeBlocks, State.release_freeBlocks]
    rfl
  lapse s i u hu _ hs := by
    refine hs.update i (fun j hj => by rw [s.entry_lapse, if_neg hj]) ?_ fun v hv _ => ?_
    · have hv : (s.lapse i u).blocksAt i = 0 := by
        simp only [State.blocksAt, s.entry_lapse, if_true]
      rw [hv, State.blocksAt_of_some hu, State.lapse, State.setUse_freeBlocks, State.release_freeBlocks]
      rfl
    · rw [s.entry_lapse, if_pos rfl] at hv
      cases hv
      rfl
  clear s i u hu hc hs := by
    have hv : ((s.clearEntry i u).entry i).use = none := by rw [s.entry_clearEntry, if_pos rfl]
    refine hs.update i (fun j hj => by rw [s.entry_clearEntry, if_neg hj]) ?_ (by simp [hv])
    rw [State.blocksAt_of_some hu, State.blocksAt_of_none hv, hs.2 i u hu hc,
      State.clearEntry_freeBlocks]
  silence s i u hu hs := hs.rewrite hu (fun j => s.entry_setUse i j _) rfl rfl rfl
  backOff s i u d b n hu hp _ hs :=
    hs.rewrite hu (fun j => s.entry_backedOff i j u d b n) rfl (by rw [hp]; rfl) rfl
  endBackoff s i u d b hu hp hs :=
    hs.rewrite hu (fun j => s.entry_setUse i j _) rfl (by rw [hp]; rfl) rfl
  issue s a m i u d hu hp _ hs :=
    hs.rewrite hu (fun j => s.entry_leftLane a m i j u d) rfl (by rw [hp]; rfl) rfl
  admission s m q r k i hu hr hs := by
    have he := fun j => s.entry_admitted m q r k i j
    have hv : ((s.admitted m q r k i).entry i).use = some (s.newUse m q r k) := by rw [he, if_pos rfl]
    have room : q.blocks ≤ s.freeBlocks := by
      simp only [State.hasRoom, Bool.and_eq_true, decide_eq_true_eq] at hr
      exact hr.1.2
    refine hs.update i (fun j hj => by rw [he, if_neg hj]) ?_ fun v hw hc => ?_
    · rw [State.blocksAt_of_none hu, State.blocksAt_of_some hv]
      show s.freeBlocks - q.blocks + q.blocks = _
      omega
    · rw [hv] at hw
      cases hw
      cases hc

/-! ### The lanes (R96, R100) -/

theorem State.LaneLaw.notMem_issued (hs : s.LaneLaw) (hu : (s.entry i).use = some u)
    (hp : u.phase.inLane = false) (a : Target) (m : Master) : i ∉ s.lane a m := by
  intro hi
  obtain ⟨v, hv, hin, _⟩ := hs.2.1 a m i hi
  rw [hu] at hv
  cases hv
  rw [hp] at hin
  cases hin

/-- An entry enters its lane, at whatever place. -/
theorem State.LaneLaw.enter {v : OrtUse} (hs : s.LaneLaw) (hn : ∀ a m, i ∉ s.lane a m)
    (hne : ∀ j, j ≠ i → t.entry j = s.entry j) (hv : (t.entry i).use = some v)
    (hin : v.phase.inLane = true) {l : List OrtIndex} (hl : l.Perm (i :: s.lane v.target v.master))
    (hlane : ∀ a m, t.lane a m = if a = v.target ∧ m = v.master then l else s.lane a m)
    (hroom : (s.lane v.target v.master).length < 16) : t.LaneLaw := by
  obtain ⟨h1, h2, h3⟩ := hs
  have mem : ∀ {a m j}, j ≠ i → (j ∈ t.lane a m ↔ j ∈ s.lane a m) := by
    intro a m j hj
    rw [hlane]
    split
    · next he => rw [hl.mem_iff, he.1, he.2, List.mem_cons]; simp [hj]
    · exact Iff.rfl
  refine ⟨fun j w hw hwin => ?_, fun a m j hj => ?_, fun a m => ?_⟩
  · by_cases hji : j = i
    · subst hji
      rw [hv] at hw
      cases hw
      rw [hlane, if_pos ⟨rfl, rfl⟩]
      exact hl.mem_iff.mpr List.mem_cons_self
    · exact (mem hji).mpr (h1 j w (hne j hji ▸ hw) hwin)
  · by_cases hji : j = i
    · subst hji
      rw [hlane] at hj
      split at hj
      · next he => exact ⟨v, hv, hin, he.1.symm, he.2.symm⟩
      · exact absurd hj (hn a m)
    · rw [hne j hji]
      exact h2 a m j ((mem hji).mp hj)
  · rw [hlane]
    split
    · refine ⟨hl.nodup_iff.mpr (List.nodup_cons.mpr ⟨hn _ _, (h3 _ _).1⟩), ?_⟩
      rw [hl.length_eq, List.length_cons]
      omega
    · exact h3 a m

/-- An entry of a lane leaves it. -/
theorem State.LaneLaw.leave {v : OrtUse} {a : Target} {m : Master} (hs : s.LaneLaw)
    (hi : i ∈ s.lane a m) (hne : ∀ j, j ≠ i → t.entry j = s.entry j) (hv : (t.entry i).use = some v)
    (hin : v.phase.inLane = false)
    (hlane : ∀ b k, t.lane b k = if b = a ∧ k = m then (s.lane a m).erase i else s.lane b k) :
    t.LaneLaw := by
  obtain ⟨h1, h2, h3⟩ := hs
  have only : ∀ {b k}, i ∈ s.lane b k → b = a ∧ k = m := by
    intro b k hb
    obtain ⟨w, hw, _, r1, r2⟩ := h2 a m i hi
    obtain ⟨w', hw', _, r1', r2'⟩ := h2 b k i hb
    rw [hw] at hw'
    cases hw'
    exact ⟨r1'.symm.trans r1, r2'.symm.trans r2⟩
  have mem : ∀ {b k j}, j ∈ t.lane b k ↔ j ∈ s.lane b k ∧ j ≠ i := by
    intro b k j
    rw [hlane]
    split
    · next he => rw [(h3 a m).1.mem_erase_iff, he.1, he.2, and_comm]
    · next he => exact ⟨fun hj => ⟨hj, fun e => he (only (e ▸ hj))⟩, And.left⟩
  refine ⟨fun j w hw hwin => ?_, fun b k j hj => ?_, fun b k => ?_⟩
  · have hji : j ≠ i := by
      rintro rfl
      rw [hv] at hw
      cases hw
      rw [hin] at hwin
      cases hwin
    exact mem.mpr ⟨h1 j w (hne j hji ▸ hw) hwin, hji⟩
  · obtain ⟨hj, hji⟩ := mem.mp hj
    rw [hne j hji]
    exact h2 b k j hj
  · rw [hlane]
    split
    · exact ⟨(h3 a m).1.erase i, le_trans List.length_erase_le (h3 a m).2⟩
    · exact h3 b k

/-- An entry rewritten with the same lane place leaves the lanes as they are. -/
theorem State.LaneLaw.rewrite {v : OrtUse} (hs : s.LaneLaw) (hu : (s.entry i).use = some u)
    (he : ∀ j, t.entry j = if j = i then { s.entry i with use := some v } else s.entry j)
    (h : v.phase.inLane = u.phase.inLane ∧ v.target = u.target ∧ v.master = u.master)
    (hl : t.lanes = s.lanes) : t.LaneLaw :=
  hs.update hu (State.lane_congr hl) (by rw [he, if_pos rfl]) (fun j hj => by rw [he, if_neg hj]) h

theorem OrtPhase.inLane_of_issued {p : OrtPhase} (h : p.isIssued = true) : p.inLane = false := by
  cases p <;> simp_all [OrtPhase.isIssued, OrtPhase.inLane]

theorem OrtPhase.inLane_of_not_counted {p : OrtPhase} (h : p.counted = false) : p.inLane = false := by
  cases p <;> simp_all [OrtPhase.counted, OrtPhase.inLane]

theorem laneLaw_table : TableLaw State.LaneLaw where
  congr s t ho _ _ hl _ _ hs := by
    have entries : t.entry = s.entry := funext fun i => State.entry_congr ho i
    have lanes : t.lane = s.lane := funext fun a => funext fun m => State.lane_congr hl a m
    rw [State.LaneLaw, entries, lanes]
    exact hs
  decrement _ _ _ hs := hs
  retire _ _ _ hu _ hs := hs.retire hu
  lapse s i u hu hp hs :=
    hs.update (v := { u with
        phase := .lapsed (s.now + s.classValue (s.window u.plane u.window).deadlineClass)
        blocks := 0, data := [], responseOwed := false })
      hu (s.lane_lapse i u (OrtPhase.inLane_of_issued hp)) (by rw [s.entry_lapse, if_pos rfl])
      (fun j hj => by rw [s.entry_lapse, if_neg hj])
      ⟨(OrtPhase.inLane_of_issued hp).symm, rfl, rfl⟩
  clear s i u hu hc hs := by
    obtain ⟨h1, h2, h3⟩ := hs
    have hne : ∀ j, j ≠ i → (s.clearEntry i u).entry j = s.entry j := fun j hj => by
      rw [s.entry_clearEntry, if_neg hj]
    refine ⟨fun j v hv hin => ?_, fun a m j hj => ?_, h3⟩
    · have hji : j ≠ i := by
        rintro rfl
        rw [s.entry_clearEntry, if_pos rfl] at hv
        cases hv
      exact h1 j v (hne j hji ▸ hv) hin
    · have hji : j ≠ i := by
        rintro rfl
        exact State.LaneLaw.notMem_issued ⟨h1, h2, h3⟩ hu (OrtPhase.inLane_of_not_counted hc) a m hj
      rw [hne j hji]
      exact h2 a m j hj
  silence s i u hu hs := hs.rewrite hu (fun j => s.entry_setUse i j _) ⟨rfl, rfl, rfl⟩ rfl
  backOff s i u d b n hu hp hl hs :=
    hs.enter (v := { u with phase := .backoff d b, retries := n }) (l := i :: s.lane u.target u.master)
      (hs.notMem_issued hu (by rw [hp]; rfl)) (fun j hj => by rw [s.entry_backedOff, if_neg hj])
      (by rw [s.entry_backedOff, if_pos rfl]) rfl (List.Perm.refl _)
      (fun a m => s.lane_setLane u.target a u.master m _) hl
  endBackoff s i u d b hu hp hs :=
    hs.rewrite hu (fun j => s.entry_setUse i j _) ⟨by rw [hp]; rfl, rfl, rfl⟩ rfl
  issue s a m i u d hu hp hl hs :=
    hs.leave hl (fun j hj => by rw [s.entry_leftLane, if_neg hj])
      (by rw [s.entry_leftLane, if_pos rfl]) rfl (fun b k => s.lane_setLane a b m k _)
  admission s m q r k i hu hr hs := by
    have hn : ∀ a m, i ∉ s.lane a m := fun a m hi => by
      obtain ⟨v, hv, _⟩ := hs.2.1 a m i hi
      rw [hu] at hv
      cases hv
    have room : (s.lane r.target m).length < 16 := by
      simp only [State.hasRoom, Bool.and_eq_true, decide_eq_true_eq] at hr
      exact hr.2
    exact hs.enter (v := s.newUse m q r k) (l := s.lane r.target m ++ [i]) hn
      (fun j hj => by rw [s.entry_admitted, if_neg hj]) (by rw [s.entry_admitted, if_pos rfl]) rfl
      (List.perm_append_comm.trans (List.Perm.refl _))
      (fun a k => State.lane_setLane _ r.target a m k _) room

/-! ### At power-on -/

theorem State.powerOn_entry (straps : Straps) (i : OrtIndex) :
    ((State.powerOn straps).entry i).use = none := by
  simp [State.powerOn, State.entry, OrtEntry.powerOn]

theorem State.powerOn_lane (straps : Straps) (a : Target) (m : Master) :
    (State.powerOn straps).lane a m = [] := by
  simp [State.powerOn, State.lane]

theorem State.powerOn_heldLaw (straps : Straps) : (State.powerOn straps).HeldLaw := by
  intro m
  rw [List.countP_eq_zero.mpr fun i _ => by simp [State.heldBy_of_none (State.powerOn_entry straps i)]]
  simp [State.powerOn]

theorem State.powerOn_poolLaw (straps : Straps) : (State.powerOn straps).PoolLaw := by
  refine ⟨?_, fun i u hu _ => by rw [State.powerOn_entry] at hu; cases hu⟩
  rw [List.sum_eq_zero fun x hx => by
    obtain ⟨i, _, rfl⟩ := List.mem_map.mp hx
    exact State.blocksAt_of_none (State.powerOn_entry straps i)]
  rfl

theorem State.powerOn_laneLaw (straps : Straps) : (State.powerOn straps).LaneLaw := by
  refine ⟨fun i u hu _ => ?_, fun a m i hi => ?_, fun a m => ?_⟩
  · rw [State.powerOn_entry] at hu; cases hu
  · rw [State.powerOn_lane] at hi; cases hi
  · rw [State.powerOn_lane]; exact ⟨List.nodup_nil, Nat.zero_le _⟩

end

/-- Settles O56: the three laws of the table, entry by entry. -/
theorem everyStepKeepsTableAndLanes : Obligations.EveryStepKeepsTableAndLanes :=
  ⟨fun _ _ => heldLaw_table.step State.powerOn_heldLaw,
    fun _ _ => poolLaw_table.step State.powerOn_poolLaw,
    fun _ _ => laneLaw_table.step State.powerOn_laneLaw⟩

end Sys2Proof.Machine

namespace Sys2Proof.Machine

/-! ### What a move makes of one master port -/

/-- A phase that the head of an Ingress Unit may have got in the event: the one of its routing, if it is a READ
or WRITE (`E q`), and UNROUTED otherwise (R54, R68). -/
def Ingress.Heads (E : Request → HeadPhase → Prop) (g : Ingress) (ph : HeadPhase) : Prop :=
  (∀ q, g.frontRequest = some q → E q ph) ∧ (g.frontRequest = none → ph = .unrouted)

/-- The data head has left, and the phase of the packet behind it is `ph` (R53, R54). -/
def MasterPort.headLeaves (p : MasterPort) (ph : HeadPhase) : MasterPort :=
  { p with ingress := { p.ingress.dataLeaves with headPhase := ph } }

/-- A Response Unit in a port flush, its stall limit set to `l` (R150). -/
def ResponseUnit.flushed (r : ResponseUnit) (l : Nat) : ResponseUnit :=
  { r with reserved := [], filled := [], notices := [], advertised := 0, credits := 0, stallElapsed := 0,
           stallLimit := l }

/-- A port at a flush to state `d` (R168). -/
def MasterPort.flushed (p : MasterPort) (d : PortState) (l : Nat) : MasterPort :=
  { p with state := d, ingress := p.ingress.flush d, resp := p.resp.flushed l, fence := .powerOn }

/-- A port opened with `n` response credits (R165). -/
def MasterPort.opened (p : MasterPort) (n l : Nat) : MasterPort :=
  { p with
    state := .active
    ingress := { p.ingress with dataOwed := 8, controlOwed := 2, dataOutstanding := 0,
                                controlOutstanding := 0 }
    resp := { p.resp with advertised := n, credits := n, stallElapsed := 0, stallLimit := l }
    fence := .powerOn }

/-- A FENCE with its slot is taken; its fence covers `members` (R153). -/
def MasterPort.fenceTaken (p : MasterPort) (tag : Tag) (members : List OrtIndex) : MasterPort :=
  let f : Fence := { members := members, failures := p.fence.postedFailures, tag := tag }
  if members.isEmpty then
    { p with resp := (p.resp.pass .head .fence).fill .fence (.fenceDone f.tag f.failures)
             fence := { slot := none, postedFailures := 0 } }
  else
    { p with resp := p.resp.pass .head .fence, fence := { slot := some f, postedFailures := 0 } }

/-- What one move makes of a port, but for a flush and a response of the ORT. -/
inductive PortMove (E : Request → HeadPhase → Prop) (p : MasterPort) : MasterPort → Prop
  | refl : PortMove E p p
  | stall (n : Nat) : PortMove E p { p with resp := { p.resp with stallElapsed := n } }
  | fault : PortMove E p { p with faults := satInc p.faults }
  | notify (n : Notice) : PortMove E p (p.notify n)
  | takeData (pkt : DataPacket) (ha : p.state = .active) (ho : p.ingress.dataOutstanding ≠ 0)
      (hq : p.ingress.dataQueue ≠ []) : PortMove E p { p with ingress := p.ingress.takeData pkt }
  | takeHead (pkt : DataPacket) (ph : HeadPhase) (ha : p.state = .active)
      (ho : p.ingress.dataOutstanding ≠ 0) (hq : p.ingress.dataQueue = [])
      (hh : (p.ingress.takeData pkt).Heads E ph) :
      PortMove E p { p with ingress := { p.ingress.takeData pkt with headPhase := ph } }
  | takeControl (pkt : ControlPacket) (ha : p.state = .active)
      (ho : p.ingress.controlOutstanding ≠ 0) :
      PortMove E p { p with ingress := p.ingress.takeControl pkt }
  | returnData (ha : p.state ≠ .offline) (ho : p.ingress.dataOutstanding ≠ 0) :
      PortMove E p { p with ingress := p.ingress.returnData }
  | returnControl (ha : p.state ≠ .offline) (ho : p.ingress.controlOutstanding ≠ 0) :
      PortMove E p { p with ingress := p.ingress.returnControl }
  | sendCredits : PortMove E p { p with ingress := p.ingress.sendCredits }
  | opened (n l : Nat) (ho : p.state = .offline) (hn : 1 ≤ n ∧ n ≤ 16) : PortMove E p (p.opened n l)
  | credit (n : Nat) :
      PortMove E p { p with resp := { p.resp with credits := p.resp.credits + min n p.resp.inUse } }
  | sendNotice (l : Nat) : PortMove E p { p with resp :=
      { p.resp with notices := p.resp.notices.tail, credits := p.resp.credits - 1, stallElapsed := 0,
                    stallLimit := l } }
  | sendResponse (l : Nat) : PortMove E p { p with resp :=
      { p.resp with filled := p.resp.filled.tail, credits := p.resp.credits - 1, stallElapsed := 0,
                    stallLimit := l } }
  | exitQuarantine (hq : p.state = .quarantined) : PortMove E p
      { p with state := .offline,
               ingress := { p.ingress with dataOutstanding := 0, dataOwed := 0, controlOutstanding := 0,
                                           controlOwed := 0 } }
  | route (q : Request) (ph : HeadPhase) (hq : p.ingress.frontRequest = some q) (he : E q ph) :
      PortMove E p { p with ingress := { p.ingress with headPhase := ph } }
  | grantSlot (ha : p.state = .active) (hf : p.resp.hasFree = true) : PortMove E p
      { p with ingress := { p.ingress with headSlot := true }, resp := p.resp.reserve .head }
  | refuse (x : Response) (ph : HeadPhase) (ha : p.state = .active) (hq : p.ingress.dataQueue ≠ [])
      (hh : p.ingress.dataLeaves.Heads E ph) :
      PortMove E p ({ p with resp := p.resp.fill .head x }.headLeaves ph)
  | refuseFree (x : Response) (ph : HeadPhase) (ha : p.state = .active)
      (hq : p.ingress.dataQueue ≠ []) (hf : p.resp.hasFree = true)
      (hh : p.ingress.dataLeaves.Heads E ph) :
      PortMove E p ({ p with resp := p.resp.fillFree x }.headLeaves ph)
  | admission (i : OrtIndex) (q : Request) (k : Kind) (ph : HeadPhase) (ha : p.state = .active)
      (hq : p.ingress.dataQueue ≠ []) (hh : p.ingress.dataLeaves.Heads E ph) :
      PortMove E p ({ p with resp := p.resp.admitHead i q k }.headLeaves ph)
  | takeFence (tag : Tag) (members : List OrtIndex) (ph : HeadPhase) (ha : p.state = .active)
      (hq : p.ingress.dataQueue ≠ []) (hs : p.ingress.headSlot = true)
      (hh : p.ingress.dataLeaves.Heads E ph) :
      PortMove E p ((p.fenceTaken tag members).headLeaves ph)
  | finishFence (x : Response) : PortMove E p
      { p with resp := p.resp.fill .fence x
               fence := { slot := none, postedFailures := p.fence.postedFailures } }
  | setFence (f : FenceTracker) (ho : f.slot ≠ none → p.fence.slot ≠ none)
      (hs : p.fence.Saturated → f.Saturated) : PortMove E p { p with fence := f }
  | takeOperation (ha : p.state = .active) (hq : p.ingress.controlQueue ≠ [])
      (hf : p.resp.hasFree = true) : PortMove E p
      { p with ingress := p.ingress.controlLeaves, resp := p.resp.reserve .control }
  | finish (x : Response) : PortMove E p { p with resp := p.resp.fill .control x }

section

variable {s t : State} {m : Master} {q : Request}

/-- A head request is the front request of an ACTIVE port. -/
theorem State.headRequest_eq_some : s.headRequest m = some q ↔
    (s.port m).state = .active ∧ (s.port m).ingress.frontRequest = some q := by
  unfold State.headRequest State.dataHead State.isActive Ingress.frontRequest
  cases (s.port m).state <;> simp

theorem Ingress.queue_of_frontRequest {g : Ingress} (h : g.frontRequest = some q) :
    g.dataQueue ≠ [] := by
  rintro e
  simp [Ingress.frontRequest, e] at h

theorem State.queue_of_dataHead {pkt : DataPacket} (h : s.dataHead m = some pkt) :
    (s.port m).state = .active ∧ (s.port m).ingress.dataQueue ≠ [] := by
  obtain ⟨ha, hq⟩ := State.dataHead_eq_some.mp h
  exact ⟨ha, by rintro e; simp [e] at hq⟩

theorem State.queue_of_controlHead {pkt : ControlPacket} (h : s.controlHead m = some pkt) :
    (s.port m).state = .active ∧ (s.port m).ingress.controlQueue ≠ [] := by
  obtain ⟨ha, hq⟩ := State.controlHead_eq_some.mp h
  exact ⟨ha, by rintro e; simp [e] at hq⟩

theorem State.port_setHeadPhase (s : State) (m a : Master) (ph : HeadPhase) :
    (s.setHeadPhase m ph).port a =
      if a = m then { s.port m with ingress := { (s.port m).ingress with headPhase := ph } }
      else s.port a := by
  simp [State.setHeadPhase, State.modIngress]

theorem State.routePhase_setHeadPhase (s : State) (m : Master) (ph : HeadPhase) :
    (s.setHeadPhase m ph).routePhase = s.routePhase :=
  funext fun a => funext fun q => State.routePhase_congr (by simp) (by simp) (by simp) (by simp)
    (by simp) a q

/-- The phases that routing gives a head of master `m` in state `t`. -/
def State.Routes (t : State) (m : Master) (q : Request) (ph : HeadPhase) : Prop := ph = t.routePhase m q

/-- Routing a new head: its port has a phase of R54, and nothing else has changed. -/
theorem State.routeNewHead_port (ha : (s.port m).state = .active)
    (hu : (s.port m).ingress.headPhase = .unrouted) :
    ∃ ph, (s.port m).ingress.Heads ((s.routeNewHead m).Routes m) ph ∧
      s.routeNewHead m = s.setHeadPhase m ph := by
  rcases s.routeNewHead_cases m with ⟨hn, e⟩ | ⟨q, hq, e⟩
  · have none : (s.port m).ingress.frontRequest = none := by
      by_contra h
      obtain ⟨q, hq⟩ := Option.ne_none_iff_exists'.mp h
      rw [State.headRequest_eq_some.mpr ⟨ha, hq⟩] at hn
      cases hn
    refine ⟨.unrouted, ⟨fun q hq => ?_, fun _ => rfl⟩, ?_⟩
    · rw [none] at hq; cases hq
    · rw [e, State.setHeadPhase, State.modIngress, State.modPort]
      have same : ({ s.port m with ingress :=
          { (s.port m).ingress with headPhase := .unrouted } } : MasterPort) = s.port m := by
        rw [← hu]
      rw [same, State.setPort_self]
  · have front := (State.headRequest_eq_some.mp hq).2
    refine ⟨_, ⟨fun q' hq' => ?_, fun hn => ?_⟩, e⟩
    · rw [front] at hq'
      cases hq'
      rw [State.Routes, e, State.routePhase_setHeadPhase]
    · rw [front] at hn; cases hn

/-- The data head leaves an ACTIVE port. -/
theorem State.port_dataLeaves (ha : (s.port m).state = .active) :
    ∃ ph, (s.port m).ingress.dataLeaves.Heads ((s.dataLeaves m).Routes m) ph ∧
      ∀ a, (s.dataLeaves m).port a = if a = m then (s.port m).headLeaves ph else s.port a := by
  have left : (s.modIngress m Ingress.dataLeaves).port m =
      { s.port m with ingress := (s.port m).ingress.dataLeaves } := by simp [State.modIngress]
  obtain ⟨ph, hh, e⟩ := State.routeNewHead_port (s := s.modIngress m Ingress.dataLeaves) (m := m)
    (by rw [left]; exact ha) (by rw [left]; rfl)
  rw [left] at hh
  refine ⟨ph, hh, fun a => ?_⟩
  rw [State.dataLeaves, e, State.port_setHeadPhase, left]
  split
  · rfl
  · next hm => simp [State.modIngress, hm]

/-- A packet that finds the queue empty becomes head. -/
theorem State.port_takeHead (pkt : DataPacket) (ha : (s.port m).state = .active)
    (hq : (s.port m).ingress.dataQueue = []) :
    ∃ ph, ((s.port m).ingress.takeData pkt).Heads ((s.takeData m pkt).Routes m) ph ∧
      ∀ a, (s.takeData m pkt).port a =
        if a = m then { s.port m with ingress :=
          { (s.port m).ingress.takeData pkt with headPhase := ph } } else s.port a := by
  have took : (s.modIngress m fun g => g.takeData pkt).port m =
      { s.port m with ingress := (s.port m).ingress.takeData pkt } := by simp [State.modIngress]
  obtain ⟨ph, hh, e⟩ := State.routeNewHead_port (s := s.modIngress m fun g => g.takeData pkt) (m := m)
    (by rw [took]; exact ha) (by rw [took]; simp [Ingress.takeData, hq])
  have eq : s.takeData m pkt = (s.modIngress m fun g => g.takeData pkt).routeNewHead m := by
    simp [State.takeData, hq]
  rw [took] at hh
  rw [eq]
  refine ⟨ph, hh, fun a => ?_⟩
  rw [e, State.port_setHeadPhase, took]
  split
  · rfl
  · next hm => simp [State.modIngress, hm]

theorem State.port_takeData (pkt : DataPacket) (hq : (s.port m).ingress.dataQueue ≠ []) (a : Master) :
    (s.takeData m pkt).port a =
      if a = m then { s.port m with ingress := (s.port m).ingress.takeData pkt } else s.port a := by
  simp [State.takeData, State.modIngress, hq]

theorem State.takeFence_eq (s : State) (m : Master) (tag : Tag) : ∃ u : State,
    s.takeFence m tag = u.dataLeaves m ∧
      ∀ a, u.port a = if a = m then (s.port m).fenceTaken tag (s.fenceSet m) else s.port a := by
  cases h : (s.fenceSet m).isEmpty with
  | true =>
    refine ⟨_, by simp only [State.takeFence, h, if_true]; rfl, fun a => ?_⟩
    by_cases e : a = m <;>
      simp [State.finishFence, State.fill, State.modResp, State.setFence, MasterPort.fenceTaken, h, e]
  | false =>
    refine ⟨_, by simp only [State.takeFence, h, Bool.false_eq_true, if_false]; rfl, fun a => ?_⟩
    by_cases e : a = m <;>
      simp [State.modResp, State.setFence, MasterPort.fenceTaken, h, e]

end
end Sys2Proof.Machine

namespace Sys2Proof.Machine

/-! ### Every move at every port -/

section

variable {s t : State}

/-- A move that changes the port of `m` alone, in one of the ways above. -/
theorem PortMove.of_one {m : Master} {p : MasterPort} (hp : PortMove (t.Routes m) (s.port m) p)
    (h : ∀ a, t.port a = if a = m then p else s.port a) (a : Master) :
    PortMove (t.Routes a) (s.port a) (t.port a) := by
  rw [h a]
  split
  · next e => subst e; exact hp
  · exact .refl

theorem PortMove.of_same (h : t.masters = s.masters) (a : Master) :
    PortMove (t.Routes a) (s.port a) (t.port a) := by
  rw [State.port_congr h]
  exact .refl

theorem PortMove.pass (s : State) (d : Nat) (a : Master) :
    PortMove ((s.passTime d).Routes a) (s.port a) ((s.passTime d).port a) := by
  rw [State.port_passTime]
  exact .stall _

theorem State.port_notifyAll (s : State) (who : Master → Bool) (n : Notice) (a : Master) :
    (s.notifyAll who n).port a = if who a then (s.port a).notify n else s.port a := by
  simp [State.notifyAll]

theorem State.port_modIngress (s : State) (m a : Master) (f : Ingress → Ingress) :
    (s.modIngress m f).port a =
      if a = m then { s.port m with ingress := f (s.port m).ingress } else s.port a := by
  simp [State.modIngress]

theorem State.port_modResp (s : State) (m a : Master) (f : ResponseUnit → ResponseUnit) :
    (s.modResp m f).port a = if a = m then { s.port m with resp := f (s.port m).resp } else s.port a := by
  simp [State.modResp]

theorem State.port_setFence (s : State) (m a : Master) (f : FenceTracker) :
    (s.setFence m f).port a = if a = m then { s.port m with fence := f } else s.port a := by
  simp [State.setFence]

/-- A response of the ORT fills the slot of the entry that owed it. -/
theorem State.port_respond (s : State) (i : OrtIndex) (u : OrtUse) (st : Status) (data : List Byte) :
    ∃ x, ∀ a, (s.respond i u st data).port a =
      if a = u.master then
        { s.port u.master with resp := (s.port u.master).resp.fill (.ort i) x } else s.port a := by
  unfold State.respond
  split
  · exact ⟨_, fun a => s.port_modResp u.master a _⟩
  · exact ⟨_, fun a => s.port_modResp u.master a _⟩

/-- Admission, a refusal and a FENCE's take end with the head leaving a port that `f` has changed. -/
theorem PortMove.of_dataLeaves {m : Master} {u : State} {p : MasterPort} (ht : t = u.dataLeaves m)
    (hu : ∀ a, u.port a = if a = m then p else s.port a) (ha : p.state = .active)
    (h : ∀ ph, p.ingress.dataLeaves.Heads (t.Routes m) ph →
      PortMove (t.Routes m) (s.port m) (p.headLeaves ph)) (a : Master) :
    PortMove (t.Routes a) (s.port a) (t.port a) := by
  have hm : u.port m = p := by rw [hu, if_pos rfl]
  obtain ⟨ph, hh, e⟩ := State.port_dataLeaves (s := u) (m := m) (hm ▸ ha)
  rw [hm, ← ht] at hh
  refine of_one (h ph hh) (fun a => ?_) a
  rw [ht, e, hm]
  split
  · rfl
  · next e => rw [hu, if_neg e]

theorem MasterPort.fenceTaken_state (p : MasterPort) (tag : Tag) (l : List OrtIndex) :
    (p.fenceTaken tag l).state = p.state := by
  unfold MasterPort.fenceTaken
  dsimp only
  split <;> rfl

theorem MasterPort.fenceTaken_ingress (p : MasterPort) (tag : Tag) (l : List OrtIndex) :
    (p.fenceTaken tag l).ingress = p.ingress := by
  unfold MasterPort.fenceTaken
  dsimp only
  split <;> rfl

theorem State.flushPort_port (s : State) (m a : Master) (d : PortState) :
    (s.flushPort m d).port a =
      if a = m then (s.port m).flushed d (s.limits m).stall else s.port a := s.port_flushPort m a d

/-- A move takes every port through one of the changes above, or is a flush, or a response of the ORT. -/
theorem Move.port (h : Move s t) :
    (∀ a, PortMove (t.Routes a) (s.port a) (t.port a)) ∨
    (∃ m d, (s.port m).state = .active ∧ d ≠ .active ∧ t = s.flushPort m d) ∨
    ∃ i u st data, (∀ v, (s.entry i).use = some v → v.responseOwed = false) ∧
      t = s.respond i u st data := by
  cases h with
  | flushPort m d ha hd => exact .inr (.inl ⟨m, d, ha, hd, rfl⟩)
  | respond i u st data hn => exact .inr (.inr ⟨i, u, st, data, hn, rfl⟩)
  | pass d => exact .inl (.pass s d)
  | fault m => exact .inl (.of_one .fault (s.port_modPort m · _))
  | notify m n => exact .inl (.of_one (.notify n) (s.port_modPort m · _))
  | notifyAll who n =>
    refine .inl fun a => ?_
    rw [State.port_notifyAll]
    split
    · exact .notify n
    · exact .refl
  | takeData m pkt ha ho =>
    by_cases hq : (s.port m).ingress.dataQueue = []
    · obtain ⟨ph, hh, e⟩ := State.port_takeHead pkt ha hq
      exact .inl (.of_one (.takeHead pkt ph ha ho hq hh) e)
    · exact .inl (.of_one (.takeData pkt ha ho hq) (State.port_takeData pkt hq))
  | takeControl m pkt ha ho => exact .inl (.of_one (.takeControl pkt ha ho) (s.port_modIngress m · _))
  | returnData m ha ho => exact .inl (.of_one (.returnData ha ho) (s.port_modIngress m · _))
  | returnControl m ha ho => exact .inl (.of_one (.returnControl ha ho) (s.port_modIngress m · _))
  | sendCredits m => exact .inl (.of_one .sendCredits (s.port_modIngress m · _))
  | openPort m n ho hn => exact .inl (.of_one (.opened n _ ho hn) (s.port_modPort m · _))
  | credit m n => exact .inl (.of_one (.credit n) (s.port_modResp m · _))
  | sendNotice m => exact .inl (.of_one (.sendNotice _) (s.port_modResp m · _))
  | sendResponse m => exact .inl (.of_one (.sendResponse _) (s.port_modResp m · _))
  | exitQuarantine m hq => exact .inl (.of_one (.exitQuarantine hq) (s.port_modPort m · _))
  | route m q hq =>
    have front := (State.headRequest_eq_some.mp hq).2
    refine .inl (.of_one (.route q _ front ?_) (s.port_setHeadPhase m · _))
    rw [State.Routes, State.routePhase_setHeadPhase]
  | grantSlot m pkt hp hf =>
    refine .inl (.of_one (.grantSlot (State.queue_of_dataHead hp).1 hf) fun a => ?_)
    rw [State.grantSlot, State.port_modIngress, State.port_modResp, State.port_modResp, if_pos rfl]
    split <;> simp_all
  | refuse m q st hq =>
    obtain ⟨pkt, hp, _⟩ := State.headRequest_dataHead hq
    obtain ⟨ha, hn⟩ := State.queue_of_dataHead hp
    exact .inl (.of_dataLeaves rfl (s.port_modResp m · _) ha fun ph => .refuse _ ph ha hn)
  | refuseFree m q st hq hf =>
    obtain ⟨pkt, hp, _⟩ := State.headRequest_dataHead hq
    obtain ⟨ha, hn⟩ := State.queue_of_dataHead hp
    exact .inl (.of_dataLeaves rfl (s.port_modResp m · _) ha fun ph => .refuseFree _ ph ha hn hf)
  | admission m q r k i hq hs =>
    obtain ⟨pkt, hp, _⟩ := State.headRequest_dataHead hq
    obtain ⟨ha, hn⟩ := State.queue_of_dataHead hp
    exact .inl (.of_dataLeaves (p := { s.port m with resp := (s.port m).resp.admitHead i q k })
      (s.admitHead_eq m q r k i) ((s.admitted m q r k i).port_modResp m · _) ha fun ph =>
      .admission i q k ph ha hn)
  | takeFence m tag hp hs =>
    obtain ⟨ha, hn⟩ := State.queue_of_dataHead hp
    obtain ⟨u, e, hu⟩ := s.takeFence_eq m tag
    refine .inl (.of_dataLeaves e hu ((MasterPort.fenceTaken_state ..).trans ha) fun ph hh => ?_)
    rw [MasterPort.fenceTaken_ingress] at hh
    exact .takeFence tag _ ph ha hn hs hh
  | finishFence m f =>
    refine .inl (.of_one (m := m) (.finishFence (.fenceDone f.tag f.failures)) fun a => ?_)
    rw [State.finishFence, State.port_setFence, State.fill, State.port_modResp, if_pos rfl,
      State.port_modResp]
    split <;> simp_all
  | setFence m f ho hs => exact .inl (.of_one (.setFence f ho hs) (s.port_setFence m · f))
  | takeOperation m pkt hp hf =>
    obtain ⟨ha, hn⟩ := State.queue_of_controlHead hp
    refine .inl (.of_one (.takeOperation ha hn hf) fun a => ?_)
    show State.port (State.modIngress _ m _) a = _
    rw [State.port_modIngress, State.port_modResp, State.port_modResp, if_pos rfl]
    split <;> simp_all
  | finish op code record => exact .inl (.of_one (.finish _) (s.port_modResp op.requester · _))
  | retire => exact .inl (.of_same (by simp))
  | lapse => exact .inl (.of_same (by simp))
  | _ => exact .inl (.of_same rfl)

/-- A port may be flushed, and a response of the ORT may fill a slot, too. -/
inductive PortEvent (E : Request → HeadPhase → Prop) (p : MasterPort) : MasterPort → Prop
  | move {q : MasterPort} (h : PortMove E p q) : PortEvent E p q
  | flush (d : PortState) (l : Nat) (ha : p.state = .active) (hd : d ≠ .active) :
      PortEvent E p (p.flushed d l)
  | answer (i : OrtIndex) (x : Response) :
      PortEvent E p { p with resp := p.resp.fill (.ort i) x }

theorem Move.portEvent (h : Move s t) (a : Master) : PortEvent (t.Routes a) (s.port a) (t.port a) := by
  rcases h.port with h | ⟨m, d, ha, hd, rfl⟩ | ⟨i, u, st, data, _, rfl⟩
  · exact .move (h a)
  · rw [State.flushPort_port]
    split
    · next e => subst e; exact .flush d _ ha hd
    · exact .move .refl
  · obtain ⟨x, e⟩ := s.port_respond i u st data
    rw [e a]
    split
    · next e => subst e; exact .answer i x
    · exact .move .refl

/-- A change at the Plane Controller hands the ports notices, and does nothing else to them. -/
theorem PlaneMove.port (h : PlaneMove s t) (a : Master) :
    ∃ l : List Notice, t.port a = l.foldl MasterPort.notify (s.port a) := by
  have told : ∀ (u : State) (who : Master → Bool) (n : Notice), ∃ l : List Notice,
      (u.notifyAll who n).port a = l.foldl MasterPort.notify (u.port a) := by
    intro u who n
    rw [State.port_notifyAll]
    split
    · exact ⟨[n], rfl⟩
    · exact ⟨[], rfl⟩
  have flip : ∀ u : State, ∃ l : List Notice, u.flip.port a = l.foldl MasterPort.notify (u.port a) :=
    fun u => told { u with generation := u.generation + 1 } _ _
  have reconcile : ∀ u : State, ∃ l : List Notice,
      u.reconcile.port a = l.foldl MasterPort.notify (u.port a) :=
    fun u => told { u.copyLive with planeState := .steady } _ _
  have complete : ∀ u : State, ∃ l : List Notice,
      u.completeSwitch.port a = l.foldl MasterPort.notify (u.port a) := by
    intro u
    obtain ⟨l, hl⟩ := flip u
    obtain ⟨k, hk⟩ := reconcile u.flip
    exact ⟨l ++ k, by rw [List.foldl_append, ← hl]; exact hk⟩
  cases h with
  | state h => cases h; exact ⟨[], rfl⟩
  | edit => exact ⟨[], rfl⟩
  | reconcile => exact reconcile s
  | completeSwitch => exact complete s
  | immediateSwitch =>
    rcases s.immediateSwitch_cases with ⟨_, e⟩ | ⟨_, e⟩
    · rw [e]; exact complete s
    · rw [e]; exact flip s

end

/-- A law of one master port that every change of a port keeps, and so every step. -/
def PortLaw (L : MasterPort → Prop) : Prop :=
  ∀ (E : Request → HeadPhase → Prop) (p q : MasterPort), PortEvent E p q → L p → L q

namespace PortLaw

variable {L : MasterPort → Prop} {s t : State}

theorem move (h : PortLaw L) (hm : Move s t) (hs : ∀ m, L (s.port m)) (m : Master) : L (t.port m) :=
  h _ _ _ (hm.portEvent m) (hs m)

theorem notices (h : PortLaw L) (l : List Notice) {p : MasterPort} (hp : L p) :
    L (l.foldl MasterPort.notify p) := by
  induction l generalizing p with
  | nil => exact hp
  | cons n l ih => exact ih (h (fun _ _ => True) _ _ (.move (.notify n)) hp)

theorem planeMove (h : PortLaw L) (hm : PlaneMove s t) (hs : ∀ m, L (s.port m)) (m : Master) :
    L (t.port m) := by
  obtain ⟨l, e⟩ := hm.port m
  rw [e]
  exact h.notices l (hs m)

theorem powerOn (h0 : L .powerOn) (straps : Straps) (m : Master) : L ((State.powerOn straps).port m) := by
  have e : (State.powerOn straps).port m = .powerOn := by simp [State.powerOn, State.port]
  rw [e]
  exact h0

theorem step (h : PortLaw L) (h0 : L .powerOn) (hs : ∀ m, L (s.port m))
    (hst : Machine.step s = .next t) : ∀ m, L (t.port m) :=
  step_keeps (P := fun s => ∀ m, L (s.port m)) (fun _ _ => h.move) (fun _ _ => h.planeMove)
    (fun _ _ _ h => h) (fun straps _ _ _ => PortLaw.powerOn h0 straps) hs hst

end PortLaw
end Sys2Proof.Machine

namespace Sys2Proof.Machine

/-! ### The ingress credits (R50) -/

@[simp] theorem Ingress.takeData_dataQueue (g : Ingress) (pkt : DataPacket) :
    (g.takeData pkt).dataQueue = g.dataQueue ++ [pkt] := by
  unfold Ingress.takeData
  dsimp only
  split <;> rfl

@[simp] theorem Ingress.takeData_dataOutstanding (g : Ingress) (pkt : DataPacket) :
    (g.takeData pkt).dataOutstanding = g.dataOutstanding - 1 := by
  unfold Ingress.takeData
  dsimp only
  split <;> rfl

@[simp] theorem Ingress.takeData_dataOwed (g : Ingress) (pkt : DataPacket) :
    (g.takeData pkt).dataOwed = g.dataOwed := by
  unfold Ingress.takeData
  dsimp only
  split <;> rfl

@[simp] theorem Ingress.takeData_controlQueue (g : Ingress) (pkt : DataPacket) :
    (g.takeData pkt).controlQueue = g.controlQueue := by
  unfold Ingress.takeData
  dsimp only
  split <;> rfl

@[simp] theorem Ingress.takeData_controlOutstanding (g : Ingress) (pkt : DataPacket) :
    (g.takeData pkt).controlOutstanding = g.controlOutstanding := by
  unfold Ingress.takeData
  dsimp only
  split <;> rfl

@[simp] theorem Ingress.takeData_controlOwed (g : Ingress) (pkt : DataPacket) :
    (g.takeData pkt).controlOwed = g.controlOwed := by
  unfold Ingress.takeData
  dsimp only
  split <;> rfl

section

variable {p q : MasterPort}

theorem MasterPort.IngressLaw.congr (h : p.IngressLaw) (hs : q.state = p.state)
    (hi : ∃ ph b, q.ingress = { p.ingress with headPhase := ph, headSlot := b }) : q.IngressLaw := by
  obtain ⟨ph, b, e⟩ := hi
  simp only [MasterPort.IngressLaw, hs, e]
  exact h

theorem MasterPort.IngressLaw.of_active (ha : q.state = .active)
    (hd : q.ingress.dataQueue.length + q.ingress.dataOutstanding + q.ingress.dataOwed = 8)
    (hc : q.ingress.controlQueue.length + q.ingress.controlOutstanding + q.ingress.controlOwed = 2) :
    q.IngressLaw :=
  ⟨fun h => (nomatch ha.symm.trans h), fun _ => ⟨hd, hc⟩, fun h => absurd ha h⟩

/-- Credits that move within a port leave its sums as they are. -/
theorem MasterPort.IngressLaw.moveCredits (h : p.IngressLaw) (hs : q.state = p.state)
    (ha : p.state = .offline → q.ingress = p.ingress)
    (hq : q.ingress.dataQueue = p.ingress.dataQueue ∧ q.ingress.controlQueue = p.ingress.controlQueue)
    (hd : q.ingress.dataOutstanding + q.ingress.dataOwed =
      p.ingress.dataOutstanding + p.ingress.dataOwed)
    (hc : q.ingress.controlOutstanding + q.ingress.controlOwed =
      p.ingress.controlOutstanding + p.ingress.controlOwed) : q.IngressLaw := by
  obtain ⟨h1, h2, h3⟩ := h
  rw [MasterPort.IngressLaw, hs, hq.1, hq.2]
  refine ⟨fun ho => by rw [ha ho]; exact h1 ho, fun ho => ?_, h3⟩
  have := h2 ho
  omega

theorem MasterPort.IngressLaw.headLeaves (h : p.IngressLaw) (ha : p.state = .active)
    (hq : p.ingress.dataQueue ≠ []) (r : ResponseUnit) (f : FenceTracker) (ph : HeadPhase) :
    (({ p with resp := r, fence := f } : MasterPort).headLeaves ph).IngressLaw := by
  obtain ⟨hd, hc⟩ := h.2.1 (by simp [ha])
  have len := List.length_pos_iff.mpr hq
  refine .of_active ha ?_ hc
  simp only [MasterPort.headLeaves, Ingress.dataLeaves, List.length_tail]
  omega

theorem ingressLaw_port : PortLaw MasterPort.IngressLaw := by
  intro E p q h hp
  obtain ⟨hoff, hon, hempty⟩ := hp
  have hp : p.IngressLaw := ⟨hoff, hon, hempty⟩
  cases h with
  | answer => exact hp
  | flush d l ha hd =>
    obtain ⟨h1, h2⟩ := hon (by simp [ha])
    simp only [MasterPort.IngressLaw, MasterPort.flushed, Ingress.flush]
    cases d with
    | active => exact absurd rfl hd
    | offline => simp [Ingress.powerOn]
    | quarantined => simp; omega
  | move h =>
    cases h with
    | notify n => exact hp.congr (by simp) ⟨_, _, by rw [MasterPort.notify_ingress]⟩
    | takeData pkt ha ho =>
      obtain ⟨hd, hc⟩ := hon (by simp [ha])
      refine .of_active ha ?_ (by simpa using hc)
      simp only [Ingress.takeData_dataQueue, Ingress.takeData_dataOutstanding, Ingress.takeData_dataOwed,
        List.length_append, List.length_singleton]
      omega
    | takeHead pkt ph ha ho hq =>
      obtain ⟨hd, hc⟩ := hon (by simp [ha])
      refine .of_active ha ?_ (by simpa using hc)
      simp only [Ingress.takeData_dataQueue, Ingress.takeData_dataOutstanding, Ingress.takeData_dataOwed,
        List.length_append, List.length_singleton]
      omega
    | takeControl pkt ha ho =>
      obtain ⟨hd, hc⟩ := hon (by simp [ha])
      refine .of_active ha hd ?_
      simp only [Ingress.takeControl, List.length_append, List.length_singleton]
      omega
    | returnData ha ho =>
      refine hp.moveCredits rfl (fun h => absurd h ha) ⟨rfl, rfl⟩ ?_ rfl
      simp only [Ingress.returnData]
      omega
    | returnControl ha ho =>
      refine hp.moveCredits rfl (fun h => absurd h ha) ⟨rfl, rfl⟩ rfl ?_
      simp only [Ingress.returnControl]
      omega
    | sendCredits =>
      refine hp.moveCredits rfl (fun h => ?_) ⟨rfl, rfl⟩ rfl rfl
      obtain ⟨e1, e2, e3, e4⟩ := hoff h
      cases hg : p.ingress
      simp_all [Ingress.sendCredits]
    | opened n l ho =>
      obtain ⟨hd, hc⟩ := hempty (by simp [ho])
      refine .of_active rfl ?_ ?_ <;> simp [MasterPort.opened, hd, hc]
    | exitQuarantine hq =>
      exact ⟨fun _ => ⟨rfl, rfl, rfl, rfl⟩, fun h => absurd rfl h, fun _ => hempty (by simp [hq])⟩
    | refuse x ph ha hq => exact hp.headLeaves ha hq _ _ ph
    | refuseFree x ph ha hq => exact hp.headLeaves ha hq _ _ ph
    | admission i r k ph ha hq => exact hp.headLeaves ha hq _ _ ph
    | takeFence tag l ph ha hq =>
      have same : p.fenceTaken tag l =
          { p with resp := (p.fenceTaken tag l).resp, fence := (p.fenceTaken tag l).fence } := by
        unfold MasterPort.fenceTaken
        dsimp only
        split <;> rfl
      rw [same]
      exact hp.headLeaves ha hq _ _ ph
    | takeOperation ha hq =>
      obtain ⟨hd, hc⟩ := hon (by simp [ha])
      have len := List.length_pos_iff.mpr hq
      refine .of_active ha hd ?_
      simp only [Ingress.controlLeaves, List.length_tail]
      omega
    | _ => exact hp.congr rfl ⟨_, _, rfl⟩

/-! ### The completion slots (R135) -/

theorem MasterPort.SlotLaw.of_active (ha : q.state = .active) (h : q.resp.slotsInUse ≤ 16) : q.SlotLaw :=
  ⟨h, fun hn => absurd ha hn⟩

theorem ResponseUnit.fill_of_nil {r : ResponseUnit} (h : r.reserved = []) (k : SlotHolder) (x : Response) :
    r.fill k x = r := by
  rw [ResponseUnit.fill, h]
  simp

/-- A fill moves a slot from RESERVED to FILLED, or is dropped (R137). -/
theorem MasterPort.SlotLaw.fill (h : p.SlotLaw) (k : SlotHolder) (x : Response) (hs : q.state = p.state)
    (hr : q.resp = p.resp.fill k x) : q.SlotLaw := by
  rw [MasterPort.SlotLaw, hs, hr, ResponseUnit.slotsInUse_fill]
  refine ⟨h.1, fun hn => ?_⟩
  rw [ResponseUnit.fill_of_nil (h.2 hn).1]
  exact h.2 hn

theorem ResponseUnit.slotsInUse_admitHead (r : ResponseUnit) (i : OrtIndex) (x : Request) (k : Kind) :
    (r.admitHead i x k).slotsInUse = r.slotsInUse := by
  unfold ResponseUnit.admitHead
  split
  · exact r.slotsInUse_fill _ _
  · exact r.slotsInUse_pass _ _

theorem MasterPort.fenceTaken_slotsInUse (p : MasterPort) (tag : Tag) (l : List OrtIndex) :
    (p.fenceTaken tag l).resp.slotsInUse = p.resp.slotsInUse := by
  unfold MasterPort.fenceTaken
  dsimp only
  split
  · exact (ResponseUnit.slotsInUse_fill ..).trans (p.resp.slotsInUse_pass ..)
  · exact p.resp.slotsInUse_pass _ _

theorem slotLaw_port : PortLaw MasterPort.SlotLaw := by
  intro E p q h hp
  obtain ⟨hn, hempty⟩ := hp
  have hp : p.SlotLaw := ⟨hn, hempty⟩
  have free : p.resp.hasFree = true → p.resp.slotsInUse + 1 ≤ 16 := fun h => of_decide_eq_true h
  cases h with
  | answer i x => exact hp.fill (.ort i) x rfl rfl
  | flush d l => exact ⟨Nat.zero_le _, fun _ => ⟨rfl, rfl⟩⟩
  | move h =>
    cases h with
    | notify n =>
      rw [MasterPort.SlotLaw, MasterPort.notify_state, MasterPort.notify_resp]
      split <;> exact hp
    | opened n l ho =>
      obtain ⟨h1, h2⟩ := hempty (by simp [ho])
      refine .of_active rfl ?_
      simp [MasterPort.opened, ResponseUnit.slotsInUse, h1, h2]
    | sendResponse l =>
      refine ⟨?_, fun h => ⟨(hempty h).1, by rw [(hempty h).2]; rfl⟩⟩
      have len : p.resp.reserved.length + p.resp.filled.length ≤ 16 := hn
      simp only [ResponseUnit.slotsInUse, List.length_tail]
      omega
    | exitQuarantine hq => exact ⟨hn, fun _ => hempty (by simp [hq])⟩
    | grantSlot ha hf => exact .of_active ha ((p.resp.slotsInUse_reserve .head).trans_le (free hf))
    | refuse x ph ha => exact .of_active ha ((p.resp.slotsInUse_fill .head x).trans_le hn)
    | refuseFree x ph ha _ hf => exact .of_active ha ((p.resp.slotsInUse_fillFree x).trans_le (free hf))
    | admission i r k ph ha => exact .of_active ha ((p.resp.slotsInUse_admitHead i r k).trans_le hn)
    | takeFence tag l ph ha =>
      exact .of_active ((MasterPort.fenceTaken_state ..).trans ha)
        ((p.fenceTaken_slotsInUse tag l).trans_le hn)
    | finishFence x => exact hp.fill .fence x rfl rfl
    | takeOperation ha _ hf =>
      exact .of_active ha ((p.resp.slotsInUse_reserve .control).trans_le (free hf))
    | finish x => exact hp.fill .control x rfl rfl
    | _ => exact hp

end
end Sys2Proof.Machine

namespace Sys2Proof.Machine

/-! ### The notices (R139, R140) -/

section

variable {p q : MasterPort}

theorem pushNotice_overflow (older : List Notice) (k : Nat) (n : Notice) :
    pushNotice (older ++ [.overflow k]) n = older ++ [.overflow (min (k + 1) 65535)] := by
  simp [pushNotice, satInc]

theorem pushNotice_of_no_overflow {l : List Notice} (h : ∀ older k, l ≠ older ++ [.overflow k])
    (n : Notice) : pushNotice l n = if l.length < 7 then l ++ [n] else l ++ [.overflow 1] := by
  unfold pushNotice
  split
  · next k hk =>
    obtain ⟨older, e⟩ := List.getLast?_eq_some_iff.mp hk
    exact absurd e (h older k)
  · rfl

theorem MasterPort.notify_of_not_active (h : p.state ≠ .active) (n : Notice) : p.notify n = p := by
  simp [MasterPort.notify, h]

theorem MasterPort.notify_of_active (h : p.state = .active) (n : Notice) :
    p.notify n = { p with resp := { p.resp with notices := pushNotice p.resp.notices n } } := by
  simp [MasterPort.notify, h]

/-- What the slots' operations leave of a Response Unit: all but its slots. -/
def ResponseUnit.SlotsOnly (r s : ResponseUnit) : Prop :=
  ∃ a b, s = { r with reserved := a, filled := b }

theorem ResponseUnit.SlotsOnly.trans {r s t : ResponseUnit} (h : r.SlotsOnly s) (k : s.SlotsOnly t) :
    r.SlotsOnly t := by
  obtain ⟨a, b, rfl⟩ := h
  obtain ⟨c, d, rfl⟩ := k
  exact ⟨c, d, rfl⟩

theorem ResponseUnit.slotsOnly_fill (r : ResponseUnit) (k : SlotHolder) (x : Response) :
    r.SlotsOnly (r.fill k x) := by
  unfold ResponseUnit.fill
  split
  · exact ⟨_, _, rfl⟩
  · exact ⟨_, _, rfl⟩

theorem ResponseUnit.slotsOnly_pass (r : ResponseUnit) (a b : SlotHolder) : r.SlotsOnly (r.pass a b) := by
  unfold ResponseUnit.pass
  split
  · exact ⟨_, _, rfl⟩
  · exact ⟨_, _, rfl⟩

theorem ResponseUnit.slotsOnly_admitHead (r : ResponseUnit) (i : OrtIndex) (x : Request) (k : Kind) :
    r.SlotsOnly (r.admitHead i x k) := by
  unfold ResponseUnit.admitHead
  split
  · exact r.slotsOnly_fill _ _
  · exact r.slotsOnly_pass _ _

theorem MasterPort.slotsOnly_fenceTaken (p : MasterPort) (tag : Tag) (l : List OrtIndex) :
    p.resp.SlotsOnly (p.fenceTaken tag l).resp := by
  unfold MasterPort.fenceTaken
  dsimp only
  split
  · exact (p.resp.slotsOnly_pass _ _).trans (ResponseUnit.slotsOnly_fill _ _ _)
  · exact p.resp.slotsOnly_pass _ _

theorem NoticeQueueLaw.tail {l : List Notice} (h : NoticeQueueLaw l) : NoticeQueueLaw l.tail := by
  obtain ⟨h1, h2, _⟩ := h
  cases l with
  | nil => exact ⟨h1, h2, fun h => nomatch h⟩
  | cons a l =>
    have len : l.length + 1 ≤ 8 := h1
    refine ⟨by simp; omega, fun n hn => h2 n ?_, fun he => ?_⟩
    · cases l with
      | nil => cases hn
      | cons b l => exact List.mem_cons_of_mem _ hn
    · have : l.length = 8 := he
      omega

theorem NoticeQueueLaw.nil : NoticeQueueLaw [] := ⟨by simp, by simp, by simp⟩

theorem MasterPort.NoticeLaw.slotsOnly (h : p.NoticeLaw) (hs : q.state = p.state)
    (hr : p.resp.SlotsOnly q.resp) : q.NoticeLaw := by
  obtain ⟨a, b, e⟩ := hr
  rw [MasterPort.NoticeLaw, hs, e]
  exact h

theorem noticeLaw_port : PortLaw MasterPort.NoticeLaw := by
  intro E p q h hp
  cases h with
  | answer i x => exact hp.slotsOnly rfl (p.resp.slotsOnly_fill ..)
  | flush d l => exact ⟨.nil, fun _ => rfl⟩
  | move h =>
    obtain ⟨hq, hempty⟩ := id hp
    cases h with
    | notify n =>
      by_cases ha : p.state = .active
      · rw [MasterPort.notify_of_active ha]
        exact ⟨pushNotice_keeps hq n, fun h => absurd ha h⟩
      · rw [MasterPort.notify_of_not_active ha]
        exact hp
    | sendNotice l => exact ⟨hq.tail, fun h => by rw [hempty h]; rfl⟩
    | opened n l ho => exact ⟨hq, fun h => absurd rfl h⟩
    | exitQuarantine hs => exact ⟨hq, fun _ => hempty (by simp [hs])⟩
    | refuse x => exact hp.slotsOnly rfl (p.resp.slotsOnly_fill ..)
    | finishFence x => exact hp.slotsOnly rfl (p.resp.slotsOnly_fill ..)
    | finish x => exact hp.slotsOnly rfl (p.resp.slotsOnly_fill ..)
    | admission i r k => exact hp.slotsOnly rfl (p.resp.slotsOnly_admitHead i r k)
    | takeFence tag l =>
      exact hp.slotsOnly (MasterPort.fenceTaken_state ..) (p.slotsOnly_fenceTaken tag l)
    | _ => exact hp

/-! ### The response credits (R141) -/

theorem MasterPort.ResponseCreditLaw.slotsOnly (h : p.ResponseCreditLaw) (hs : q.state = p.state)
    (hr : p.resp.SlotsOnly q.resp) : q.ResponseCreditLaw := by
  obtain ⟨a, b, e⟩ := hr
  rw [MasterPort.ResponseCreditLaw, hs, e]
  exact h

theorem responseCreditLaw_port : PortLaw MasterPort.ResponseCreditLaw := by
  intro E p q h hp
  cases h with
  | answer i x => exact hp.slotsOnly rfl (p.resp.slotsOnly_fill ..)
  | flush d l _ hd => exact ⟨Nat.le_refl 0, Nat.zero_le _, fun h => absurd h hd, fun _ => rfl⟩
  | move h =>
    obtain ⟨hle, hmax, hon, hoff⟩ := id hp
    cases h with
    | notify n =>
      rw [MasterPort.ResponseCreditLaw, MasterPort.notify_state, MasterPort.notify_resp]
      split <;> exact hp
    | credit n =>
      refine ⟨?_, hmax, hon, hoff⟩
      simp only [ResponseUnit.inUse]
      omega
    | sendNotice l => exact ⟨(Nat.sub_le _ _).trans hle, hmax, hon, hoff⟩
    | sendResponse l => exact ⟨(Nat.sub_le _ _).trans hle, hmax, hon, hoff⟩
    | opened n l _ hn => exact ⟨Nat.le_refl n, hn.2, fun _ => hn.1, fun h => absurd rfl h⟩
    | exitQuarantine hs =>
      exact ⟨hle, hmax, fun h => (nomatch h), fun _ => hoff (by simp [hs])⟩
    | refuse x => exact hp.slotsOnly rfl (p.resp.slotsOnly_fill ..)
    | finishFence x => exact hp.slotsOnly rfl (p.resp.slotsOnly_fill ..)
    | finish x => exact hp.slotsOnly rfl (p.resp.slotsOnly_fill ..)
    | admission i r k => exact hp.slotsOnly rfl (p.resp.slotsOnly_admitHead i r k)
    | takeFence tag l =>
      exact hp.slotsOnly (MasterPort.fenceTaken_state ..) (p.slotsOnly_fenceTaken tag l)
    | _ => exact hp

/-! ### The saturating counts (R51, R115, R152) -/

/-- The counts of a master port lie in their range. -/
def MasterPort.Saturated (p : MasterPort) : Prop := p.faults ≤ 65535 ∧ p.fence.Saturated

theorem FenceTracker.powerOn_saturated : FenceTracker.powerOn.Saturated :=
  ⟨Nat.zero_le _, fun _ h => nomatch h⟩

/-- A fence takes over the posted-failure count, and the count restarts (R153). -/
theorem MasterPort.fenceTaken_saturated (h : p.fence.Saturated) (tag : Tag) (l : List OrtIndex) :
    (p.fenceTaken tag l).fence.Saturated := by
  unfold MasterPort.fenceTaken
  dsimp only
  split
  · exact ⟨Nat.zero_le _, fun _ h => nomatch h⟩
  · exact ⟨Nat.zero_le _, by rintro _ ⟨⟩; exact h.1⟩

theorem MasterPort.fenceTaken_faults (p : MasterPort) (tag : Tag) (l : List OrtIndex) :
    (p.fenceTaken tag l).faults = p.faults := by
  unfold MasterPort.fenceTaken
  dsimp only
  split <;> rfl

theorem saturated_port : PortLaw MasterPort.Saturated := by
  intro E p q h hp
  obtain ⟨hf, hs⟩ := id hp
  cases h with
  | answer => exact hp
  | flush d l => exact ⟨hf, FenceTracker.powerOn_saturated⟩
  | move h =>
    cases h with
    | fault => exact ⟨Nat.min_le_right _ _, hs⟩
    | notify n =>
      rw [MasterPort.Saturated, MasterPort.notify_faults, MasterPort.notify_fence]
      exact hp
    | opened n l => exact ⟨hf, FenceTracker.powerOn_saturated⟩
    | takeFence tag l =>
      exact ⟨(p.fenceTaken_faults tag l).trans_le hf, MasterPort.fenceTaken_saturated hs tag l⟩
    | finishFence x => exact ⟨hf, hs.1, fun _ h => nomatch h⟩
    | setFence f _ hk => exact ⟨hf, hk hs⟩
    | _ => exact hp

variable {s t : State}

theorem State.saturationLaw_iff : s.SaturationLaw ↔
    (∀ m, (s.port m).Saturated) ∧ ∀ a, (s.target a).Saturated := Iff.rfl

theorem Move.targetSaturated (h : Move s t) (hs : ∀ a, (s.target a).Saturated) (a : Target) :
    (t.target a).Saturated := by
  rcases h.target_cases with e | ⟨b, f, e, _, hf⟩ | ⟨b, m, run, k, e, _⟩
  · rw [State.target_congr e]; exact hs a
  · rw [State.target_congr e, State.target_modTarget]
    split
    · exact hf (hs b)
    · exact hs a
  · rw [State.target_congr e, State.target_modTarget]
    split
    · unfold TargetPort.spend
      split <;> exact hs b
    · exact hs a

theorem MasterPort.powerOn_saturated : MasterPort.powerOn.Saturated :=
  ⟨Nat.zero_le _, FenceTracker.powerOn_saturated⟩

theorem State.powerOn_saturationLaw (straps : Straps) : (State.powerOn straps).SaturationLaw := by
  refine ⟨PortLaw.powerOn (L := MasterPort.Saturated) MasterPort.powerOn_saturated straps, fun a => ?_⟩
  simp [State.powerOn, State.target, TargetPort.powerOn]

theorem State.SaturationLaw.step (hs : s.SaturationLaw) (h : Machine.step s = .next t) :
    t.SaturationLaw := by
  refine step_keeps (P := State.SaturationLaw)
    (fun _ _ h hs => ⟨saturated_port.move h hs.1, h.targetSaturated hs.2⟩)
    (fun _ _ h hs => ⟨saturated_port.planeMove h hs.1, fun a => ?_⟩) (fun _ _ _ h => h)
    (fun straps _ _ _ => State.powerOn_saturationLaw straps) hs h
  rw [State.target_congr h.targets]
  exact hs.2 a

theorem MasterPort.powerOn_noticeLaw : MasterPort.powerOn.NoticeLaw := ⟨.nil, fun _ => rfl⟩

theorem MasterPort.powerOn_responseCreditLaw : MasterPort.powerOn.ResponseCreditLaw :=
  ⟨Nat.le_refl 0, Nat.zero_le _, fun h => (nomatch h), fun _ => rfl⟩

end

/-- A notice handed to a port: dropped, counted, stored, or counted in a new OVERFLOW record (R139, R140). -/
theorem MasterPort.notify_cases (p : MasterPort) (n : Notice) :
    let holds (q : List Notice) : Prop := p.notify n = { p with resp := { p.resp with notices := q } }
    (p.state ≠ .active → p.notify n = p) ∧
    (p.state = .active →
      (∀ older k, p.resp.notices = older ++ [.overflow k] →
        holds (older ++ [.overflow (min (k + 1) 65535)])) ∧
      ((∀ older k, p.resp.notices ≠ older ++ [.overflow k]) →
        (p.resp.notices.length < 7 → holds (p.resp.notices ++ [n])) ∧
        (7 ≤ p.resp.notices.length → holds (p.resp.notices ++ [.overflow 1])))) := by
  refine ⟨fun h => p.notify_of_not_active h n, fun ha => ⟨fun older k hk => ?_, fun hn => ⟨fun hl => ?_,
    fun hl => ?_⟩⟩⟩
  · rw [p.notify_of_active ha, hk, pushNotice_overflow]
  · rw [p.notify_of_active ha, pushNotice_of_no_overflow hn, if_pos hl]
  · rw [p.notify_of_active ha, pushNotice_of_no_overflow hn, if_neg (by omega)]

/-- Settles O51: the ways of a notice, and three laws that every change of a port keeps. -/
theorem everyStepKeepsNoticesAndCounts : Obligations.EveryStepKeepsNoticesAndCounts :=
  ⟨MasterPort.notify_cases, fun _ _ => noticeLaw_port.step MasterPort.powerOn_noticeLaw,
    fun _ _ => responseCreditLaw_port.step MasterPort.powerOn_responseCreditLaw,
    fun _ _ => State.SaturationLaw.step⟩

end Sys2Proof.Machine

namespace Sys2Proof.Machine

/-! ### The heads (R54) -/

section

variable {s t : State} {m : Master}

/-- A READ or WRITE at the head of an ACTIVE port waits UNROUTED only under `H`. -/
def MasterPort.WaitsOnly (H : Request → Prop) (p : MasterPort) : Prop :=
  p.state = .active → ∀ q, p.ingress.frontRequest = some q → p.ingress.headPhase = .unrouted → H q

/-- What a READ or WRITE that waits UNROUTED waits for (R54). -/
def State.MayWait (s : State) (q : Request) : Prop :=
  s.planeState.phase = .holding ∧ 1 ≤ q.length ∧ q.length ≤ 256

theorem State.headLaw_iff : s.HeadLaw ↔ ∀ m, (s.port m).WaitsOnly s.MayWait :=
  forall_congr' fun _ => ⟨fun h ha q hq => h q (State.headRequest_eq_some.mpr ⟨ha, hq⟩),
    fun h q hq => h (State.headRequest_eq_some.mp hq).1 q (State.headRequest_eq_some.mp hq).2⟩

/-- A head that leaves is followed by one that was routed in the event. -/
theorem MasterPort.WaitsOnly.of_heads {E : Request → HeadPhase → Prop} {H : Request → Prop}
    (hE : ∀ q, E q .unrouted → H q) {p : MasterPort} {g : Ingress} {ph : HeadPhase} (hh : g.Heads E ph)
    (hg : p.ingress = { g with headPhase := ph }) : p.WaitsOnly H := by
  intro _ q hq hu
  rw [hg] at hq hu
  have front : g.frontRequest = some q := hq
  have waits : ph = .unrouted := hu
  exact hE q (waits ▸ hh.1 q front)

theorem Ingress.frontRequest_takeData {g : Ingress} (h : g.dataQueue ≠ []) (pkt : DataPacket) :
    (g.takeData pkt).frontRequest = g.frontRequest := by
  cases hq : g.dataQueue with
  | nil => exact absurd hq h
  | cons a l => simp [Ingress.frontRequest, hq]

theorem Ingress.headPhase_takeData {g : Ingress} (h : g.dataQueue ≠ []) (pkt : DataPacket) :
    (g.takeData pkt).headPhase = g.headPhase := by
  simp [Ingress.takeData, h]

theorem MasterPort.WaitsOnly.event {E : Request → HeadPhase → Prop} {H : Request → Prop}
    (hE : ∀ q, E q .unrouted → H q) {p q : MasterPort} (h : PortEvent E p q) (hi : p.IngressLaw)
    (hp : p.WaitsOnly H) : q.WaitsOnly H := by
  cases h with
  | answer => exact hp
  | flush d l _ hd => exact fun ha => absurd ha hd
  | move h =>
    cases h with
    | notify n =>
      rw [MasterPort.WaitsOnly, MasterPort.notify_state, MasterPort.notify_ingress]
      exact hp
    | takeData pkt ha _ hq =>
      intro _ r hr hu
      rw [Ingress.frontRequest_takeData hq] at hr
      rw [Ingress.headPhase_takeData hq] at hu
      exact hp ha r hr hu
    | takeHead pkt ph _ _ _ hh => exact .of_heads hE hh rfl
    | opened n l ho =>
      intro _ r hr
      have front : p.ingress.frontRequest = some r := hr
      exact absurd (hi.2.2 (by simp [ho])).1 (Ingress.queue_of_frontRequest front)
    | exitQuarantine => exact fun ha => nomatch ha
    | route r ph hr he =>
      intro _ r' hr' hu
      cases hr.symm.trans hr'
      have waits : ph = .unrouted := hu
      exact hE r (waits ▸ he)
    | refuse x ph _ _ hh => exact .of_heads hE hh rfl
    | refuseFree x ph _ _ _ hh => exact .of_heads hE hh rfl
    | admission i r k ph _ _ hh => exact .of_heads hE hh rfl
    | takeFence tag l ph _ _ _ hh =>
      refine .of_heads hE hh ?_
      rw [MasterPort.headLeaves, MasterPort.fenceTaken_ingress]
    | _ => exact hp

theorem State.mayWait_of_routes (h : t.Routes m q .unrouted) : t.MayWait q := by
  obtain ⟨hh, hl⟩ := State.routePhase_unrouted (Eq.symm h)
  exact ⟨by simpa [PlaneState.isHolding] using hh, hl⟩

/-- The head of one port, with the credits of its link. -/
def State.HeadSound (s : State) (m : Master) : Prop :=
  (s.port m).IngressLaw ∧ (s.port m).WaitsOnly s.MayWait

theorem State.HeadSound.move (h : Move s t) (hs : s.HeadSound m) : t.HeadSound m := by
  have same : s.MayWait = t.MayWait := funext fun _ => by rw [State.MayWait, State.MayWait, h.planeState]
  refine ⟨ingressLaw_port _ _ _ (h.portEvent m) hs.1, ?_⟩
  exact MasterPort.WaitsOnly.event (fun _ => State.mayWait_of_routes) (h.portEvent m) hs.1 (same ▸ hs.2)

theorem State.HeadSound.moves (h : Moves s t) (hs : s.HeadSound m) : t.HeadSound m := by
  induction h with
  | refl => exact hs
  | tail _ h ih => exact ih.move h

theorem MasterPort.WaitsOnly.mono {H K : Request → Prop} {p : MasterPort} (hp : p.WaitsOnly H)
    (h : ∀ q, H q → K q) : p.WaitsOnly K := fun ha q hq hu => h q (hp ha q hq hu)

/-- The notices of a change at the Plane Controller leave a head as it is. -/
theorem PlaneMove.waitsOnly {H : Request → Prop} (h : PlaneMove s t) (hs : (s.port m).WaitsOnly H) :
    (t.port m).WaitsOnly H := by
  have keeps : ∀ (l : List Notice) (p : MasterPort), p.WaitsOnly H →
      (l.foldl MasterPort.notify p).WaitsOnly H := by
    intro l
    induction l with
    | nil => exact fun _ h => h
    | cons n l ih =>
      intro p hp
      refine ih _ ?_
      rw [MasterPort.WaitsOnly, MasterPort.notify_state, MasterPort.notify_ingress]
      exact hp
  obtain ⟨l, e⟩ := h.port m
  rw [e]
  exact keeps l _ hs

theorem State.not_mayWait (hh : s.planeState.isHolding = false) (q : Request) : ¬s.MayWait q := by
  rintro ⟨h, _⟩
  simp [PlaneState.isHolding, h] at hh

/-- Routing fixes the head that it routes. -/
theorem State.HeadSound.routeUnrouted (hi : (s.port m).IngressLaw) : (s.routeUnrouted m).HeadSound m := by
  by_cases hw : ∃ q, s.headRequest m = some q ∧ (s.port m).ingress.headPhase = .unrouted
  · obtain ⟨q, hq, hu⟩ := hw
    have routed : (s.setHeadPhase m (s.routePhase m q)).HeadSound m := by
      have move := Move.route s m q hq
      refine ⟨ingressLaw_port _ _ _ (move.portEvent m) hi, fun _ q' hq' hu' => ?_⟩
      rw [State.port_setHeadPhase, if_pos rfl] at hq' hu'
      cases (State.headRequest_eq_some.mp hq).2.symm.trans hq'
      refine State.mayWait_of_routes (m := m) ?_
      rw [State.Routes, State.routePhase_setHeadPhase]
      exact Eq.symm hu'
    have e : s.routeUnrouted m = s.routeHead m q := by simp only [State.routeUnrouted, hq, hu]
    rw [e]
    exact routed.moves (Moves.of_routed hq)
  · have e : s.routeUnrouted m = s := by
      unfold State.routeUnrouted
      split
      · next q hq hu => exact absurd ⟨q, hq, hu⟩ hw
      · rfl
    rw [e]
    exact ⟨hi, fun ha q hq hu => absurd ⟨q, State.headRequest_eq_some.mpr ⟨ha, hq⟩, hu⟩ hw⟩

/-- The heads of a list of masters, routed in turn, join the others that are sound. -/
theorem State.HeadSound.routeWaiting (l : List Master) (hi : s.IngressLaw)
    (hs : ∀ m, m ∉ l → s.HeadSound m) (m : Master) : (s.routeWaiting l).HeadSound m := by
  induction l generalizing s with
  | nil => exact hs m List.not_mem_nil
  | cons a l ih =>
    have moves : Moves s (s.routeUnrouted a) := Moves.routeUnrouted s a
    have ingress : (s.routeUnrouted a).IngressLaw := by
      have keeps : ∀ {t}, Moves s t → t.IngressLaw := by
        intro t h
        induction h with
        | refl => exact hi
        | tail _ h ih => exact ingressLaw_port.move h ih
      exact keeps moves
    refine ih ingress fun b hb => ?_
    by_cases e : b = a
    · subst e
      exact State.HeadSound.routeUnrouted (hi b)
    · exact (hs b (by simp [e, hb])).moves moves

theorem mem_allMasters (m : Master) : m ∈ allMasters := by
  revert m
  decide

/-- After HOLDING every head is routed (R54). -/
theorem State.HeadSound.resumeHeads (hi : s.IngressLaw) (m : Master) : s.resumeHeads.HeadSound m := by
  obtain ⟨order, perm, e⟩ := s.resumeHeads_eq
  rw [e]
  refine State.HeadSound.routeWaiting (s := { s with choices := s.choices + 1 }) order hi (fun a ha => ?_) m
  exact absurd (perm.mem_iff.mpr (mem_allMasters a)) ha

theorem EventBy.headSound (h : Event s t) (hs : ∀ m, s.HeadSound m) : ∀ m, t.HeadSound m := by
  induction h with
  | refl => exact hs
  | move _ h ih => exact fun m => (ih m).move h
  | plane _ h hh ih =>
    refine fun m => ⟨ingressLaw_port.planeMove h (fun a => (ih a).1) m, ?_⟩
    exact (h.waitsOnly ((ih m).2.mono fun q => State.not_mayWait hh q)).mono fun _ h => h.elim
  | resume _ h _ ih =>
    exact fun m => State.HeadSound.resumeHeads (ingressLaw_port.planeMove h fun a => (ih a).1) m

theorem MasterPort.powerOn_ingressLaw : MasterPort.powerOn.IngressLaw :=
  ⟨fun _ => ⟨rfl, rfl, rfl, rfl⟩, fun h => absurd rfl h, fun _ => ⟨rfl, rfl⟩⟩

theorem State.powerOn_headLaw (straps : Straps) : (State.powerOn straps).HeadLaw := by
  refine State.headLaw_iff.mpr fun m => ?_
  have e : (State.powerOn straps).port m = .powerOn := by simp [State.powerOn, State.port]
  rw [e]
  exact fun ha => nomatch ha

theorem State.HeadLaw.step (hi : s.IngressLaw) (hs : s.HeadLaw) (h : Machine.step s = .next t) :
    t.HeadLaw := by
  rcases step_cases h with ⟨c, l, e⟩ | ⟨straps, b, c, l, rfl⟩
  · refine State.headLaw_iff.mpr fun m => (e.headSound (fun a => ?_) m).2
    exact ⟨hi a, State.headLaw_iff.mp hs a⟩
  · exact State.powerOn_headLaw straps

end

/-- Settles O49: the credits move within their sums, and every packet that becomes head is routed in its
event. -/
theorem everyStepKeepsIngressCreditsAndRoutedHeads :
    Obligations.EveryStepKeepsIngressCreditsAndRoutedHeads :=
  ⟨fun _ _ => ingressLaw_port.step MasterPort.powerOn_ingressLaw, fun _ _ => State.HeadLaw.step⟩

end Sys2Proof.Machine

namespace Sys2Proof.Machine

/-! ### The slots that are promised -/

section

variable {p q : MasterPort} {r : ResponseUnit} {a b c : SlotHolder}

theorem ResponseUnit.mem_fill (h : a ∈ r.reserved) (hn : a ≠ b) (x : Response) :
    a ∈ (r.fill b x).reserved := by
  unfold ResponseUnit.fill
  split
  · exact (List.mem_erase_of_ne hn).mpr h
  · exact h

theorem ResponseUnit.mem_pass (h : a ∈ r.reserved) (hn : a ≠ b) : a ∈ (r.pass b c).reserved := by
  unfold ResponseUnit.pass
  split
  · exact List.mem_cons_of_mem _ ((List.mem_erase_of_ne hn).mpr h)
  · exact h

theorem ResponseUnit.mem_pass_target (h : a ∈ r.reserved) : b ∈ (r.pass a b).reserved := by
  rw [ResponseUnit.pass, if_pos h]
  exact List.mem_cons_self

theorem ResponseUnit.mem_admitHead (h : a ∈ r.reserved) (hn : a ≠ .head) (i : OrtIndex) (x : Request)
    (k : Kind) : a ∈ (r.admitHead i x k).reserved := by
  unfold ResponseUnit.admitHead
  split
  · exact mem_fill h hn _
  · exact mem_pass h hn

theorem ResponseUnit.mem_admitHead_ort (h : .head ∈ r.reserved) (i : OrtIndex) (x : Request) {k : Kind}
    (hk : k ≠ .writeP) : .ort i ∈ (r.admitHead i x k).reserved := by
  rw [ResponseUnit.admitHead, if_neg hk]
  exact mem_pass_target h

theorem MasterPort.mem_fenceTaken (h : a ∈ p.resp.reserved) (hh : a ≠ .head) (hf : a ≠ .fence) (tag : Tag)
    (l : List OrtIndex) : a ∈ (p.fenceTaken tag l).resp.reserved := by
  unfold MasterPort.fenceTaken
  dsimp only
  split
  · exact ResponseUnit.mem_fill (ResponseUnit.mem_pass h hh) hf _
  · exact ResponseUnit.mem_pass h hh

/-- The slots that a head and a fence hold (R58, R152). -/
def MasterPort.HoldsSlots (p : MasterPort) : Prop :=
  (p.ingress.headSlot = true → .head ∈ p.resp.reserved) ∧
  (p.fence.slot ≠ none → .fence ∈ p.resp.reserved)

theorem Ingress.headSlot_takeData {g : Ingress} (h : g.dataQueue ≠ []) (pkt : DataPacket) :
    (g.takeData pkt).headSlot = g.headSlot := by
  simp [Ingress.takeData, h]

theorem Ingress.headSlot_takeHead {g : Ingress} (h : g.dataQueue = []) (pkt : DataPacket) :
    (g.takeData pkt).headSlot = false := by
  simp [Ingress.takeData, h]

/-- A head that leaves holds no slot any more. -/
theorem MasterPort.HoldsSlots.headLeaves (h : p.fence.slot ≠ none → .fence ∈ p.resp.reserved)
    (ph : HeadPhase) : (p.headLeaves ph).HoldsSlots :=
  ⟨fun h => (nomatch h), h⟩

theorem MasterPort.fenceTaken_holds (h : .head ∈ p.resp.reserved) (tag : Tag) (l : List OrtIndex) :
    (p.fenceTaken tag l).fence.slot ≠ none → .fence ∈ (p.fenceTaken tag l).resp.reserved := by
  unfold MasterPort.fenceTaken
  dsimp only
  split
  · exact fun h => absurd rfl h
  · exact fun _ => ResponseUnit.mem_pass_target h

theorem holdsSlots_port : PortLaw MasterPort.HoldsSlots := by
  intro E p q h hp
  obtain ⟨hh, hf⟩ := id hp
  have fill : ∀ {k : SlotHolder} {x : Response}, .fence ≠ k → p.fence.slot ≠ none →
      .fence ∈ (p.resp.fill k x).reserved := fun hn h => ResponseUnit.mem_fill (hf h) hn _
  cases h with
  | answer i x =>
    exact ⟨fun h => ResponseUnit.mem_fill (hh h) (by simp) x, fill (by simp)⟩
  | flush d l =>
    refine ⟨fun h => ?_, fun h => absurd rfl h⟩
    simp only [MasterPort.flushed, Ingress.flush] at h
    split at h <;> cases h
  | move h =>
    cases h with
    | notify n =>
      rw [MasterPort.HoldsSlots, MasterPort.notify_ingress, MasterPort.notify_fence,
        MasterPort.notify_resp]
      split <;> exact hp
    | takeData pkt _ _ hq => exact ⟨fun h => hh (Ingress.headSlot_takeData hq pkt ▸ h), hf⟩
    | takeHead pkt ph _ _ hq =>
      refine ⟨fun h => ?_, hf⟩
      exact nomatch (Ingress.headSlot_takeHead hq pkt).symm.trans h
    | opened n l => exact ⟨hh, fun h => absurd rfl h⟩
    | grantSlot => exact ⟨fun _ => List.mem_cons_self, fun h => List.mem_cons_of_mem _ (hf h)⟩
    | refuse x ph => exact .headLeaves (fill (by simp)) ph
    | refuseFree x ph => exact .headLeaves hf ph
    | admission i r k ph =>
      exact .headLeaves (p := { p with resp := p.resp.admitHead i r k })
        (fun h => ResponseUnit.mem_admitHead (hf h) (by simp) i r k) ph
    | takeFence tag l ph _ _ hs => exact .headLeaves (MasterPort.fenceTaken_holds (hh hs) tag l) ph
    | finishFence x =>
      exact ⟨fun h => ResponseUnit.mem_fill (hh h) (by simp) x, fun h => absurd rfl h⟩
    | setFence f ho => exact ⟨hh, fun h => hf (ho h)⟩
    | takeOperation =>
      exact ⟨fun h => List.mem_cons_of_mem _ (hh h), fun h => List.mem_cons_of_mem _ (hf h)⟩
    | finish x =>
      exact ⟨fun h => ResponseUnit.mem_fill (hh h) (by simp) x, fill (by simp)⟩
    | _ => exact hp

/-- The slot of an ORT entry stays RESERVED, but for a flush and the entry's own response. -/
theorem PortMove.keepsSlot {E : Request → HeadPhase → Prop} {i : OrtIndex} (h : PortMove E p q)
    (ha : p.state = .active) (hi : .ort i ∈ p.resp.reserved) :
    q.state = .active ∧ .ort i ∈ q.resp.reserved := by
  cases h with
  | notify n =>
    rw [MasterPort.notify_state, MasterPort.notify_resp]
    split <;> exact ⟨ha, hi⟩
  | opened n l ho => exact absurd (ha.symm.trans ho) (by simp)
  | exitQuarantine hq => exact absurd (ha.symm.trans hq) (by simp)
  | grantSlot => exact ⟨ha, List.mem_cons_of_mem _ hi⟩
  | refuse x => exact ⟨ha, ResponseUnit.mem_fill hi (by simp) x⟩
  | admission j r k => exact ⟨ha, ResponseUnit.mem_admitHead hi (by simp) j r k⟩
  | takeFence tag l =>
    exact ⟨(MasterPort.fenceTaken_state ..).trans ha,
      MasterPort.mem_fenceTaken hi (by simp) (by simp) tag l⟩
  | finishFence x => exact ⟨ha, ResponseUnit.mem_fill hi (by simp) x⟩
  | takeOperation => exact ⟨ha, List.mem_cons_of_mem _ hi⟩
  | finish x => exact ⟨ha, ResponseUnit.mem_fill hi (by simp) x⟩
  | _ => exact ⟨ha, hi⟩

end

/-! ### The entries with a response owed -/

/-- Entry `v` with a response owed has become `u`, for the same request. -/
def OrtUse.Continues (v u : OrtUse) : Prop :=
  v.responseOwed = true ∧ v.master = u.master ∧ v.kind = u.kind ∧ v.tag = u.tag ∧
    v.phase.counted = u.phase.counted

/-- Every entry of `t` with a response owed had it owed in `s`. -/
def State.OwedBefore (s t : State) : Prop :=
  ∀ i u, (t.entry i).use = some u → u.responseOwed = true →
    ∃ v, (s.entry i).use = some v ∧ v.Continues u

section

variable {s t : State} {i : OrtIndex} {m : Master}

theorem OrtUse.Continues.refl {u : OrtUse} (h : u.responseOwed = true) : u.Continues u :=
  ⟨h, rfl, rfl, rfl, rfl⟩

theorem State.OwedBefore.of_same (h : t.ort = s.ort) : s.OwedBefore t := fun i u hu ho =>
  ⟨u, State.entry_congr h i ▸ hu, .refl ho⟩

/-- One entry changes, and its response is owed as before, or not any more. -/
theorem State.OwedBefore.of_update {w : Option OrtUse}
    (he : ∀ j, t.entry j = if j = i then { s.entry i with use := w } else s.entry j)
    (hw : ∀ u, w = some u → u.responseOwed = true → ∃ v, (s.entry i).use = some v ∧ v.Continues u) :
    s.OwedBefore t := by
  intro j u hu ho
  rw [he] at hu
  split at hu
  · next e => subst e; exact hw u hu ho
  · exact ⟨u, hu, .refl ho⟩

/-- A flush leaves a response owed to another master as it is; its own master's were not owed any more, or
those of posted writes or of LAPSED entries (R94). -/
theorem State.afterFlush_owed {u w : OrtUse} (h : s.afterFlush m u = some w)
    (ho : w.responseOwed = true) :
    u.Continues w ∧ (u.master = m → u.kind = .writeP ∨ u.phase.counted = false) := by
  unfold State.afterFlush at h
  split at h
  · next hm => cases h; exact ⟨.refl ho, fun e => absurd e hm⟩
  · split at h
    · next hk =>
      refine ⟨?_, fun _ => .inl hk⟩
      split at h <;> cases h <;> exact ⟨ho, rfl, rfl, rfl, rfl⟩
    · split at h
      · next hn => cases h; simp [ho] at hn
      · split at h
        · cases h
        · cases h
        · cases h; cases ho
        · next hp => cases h; exact ⟨.refl ho, fun _ => .inr (by rw [hp]; rfl)⟩

theorem State.OwedBefore.flushPort (s : State) (m : Master) (d : PortState) :
    s.OwedBefore (s.flushPort m d) := by
  intro i w hw ho
  rw [s.entry_flushPort] at hw
  obtain ⟨u, hu, ha⟩ := Option.bind_eq_some_iff.mp hw
  exact ⟨u, hu, (State.afterFlush_owed ha ho).1⟩

/-- Only admission makes a response owed. -/
theorem Move.owed (h : Move s t) : s.OwedBefore t ∨
    ∃ m q r k i, s.headRequest m = some q ∧ (s.port m).ingress.headSlot = true ∧
      (s.port m).ingress.headPhase = .routed r k ∧ (s.entry i).use = none ∧
      t = s.admitHead m q r k i := by
  cases h with
  | admission m q r k i hq hs hp _ hi => exact .inr ⟨m, q, r, k, i, hq, hs, hp, hi, rfl⟩
  | flushPort m d => exact .inl (.flushPort s m d)
  | retire i u => exact .inl (.of_update (s.entry_retire i u) (fun _ h => nomatch h))
  | lapse i u => exact .inl (.of_update (s.entry_lapse i u) (by rintro _ ⟨⟩ ⟨⟩))
  | clearEntry i u => exact .inl (.of_update (s.entry_clearEntry i · u) (fun _ h => nomatch h))
  | backOff i u d b n hu hp =>
    refine .inl (.of_update (s.entry_backedOff i · u d b n) ?_)
    rintro _ ⟨⟩ ho
    exact ⟨u, hu, ho, rfl, rfl, rfl, by rw [hp]; rfl⟩
  | endBackoff i u d b hu hp =>
    refine .inl (.of_update (s.entry_setUse i · _) ?_)
    rintro _ ⟨⟩ ho
    exact ⟨u, hu, ho, rfl, rfl, rfl, by rw [hp]; rfl⟩
  | issue a m i run d u hu hp =>
    refine .inl (.of_update (i := i) (w := some { u with phase := u.phase.issue }) (fun j => ?_) ?_)
    · exact State.entry_setUse _ i j _
    · rintro _ ⟨⟩ ho
      exact ⟨u, hu, ho, rfl, rfl, rfl, by rw [hp]; rfl⟩
  | _ =>
    refine .inl (.of_same ?_)
    simp [State.grantSlot, State.takeOperation, State.decremented]

theorem State.entry_admitHead (s : State) (m : Master) (q : Request) (r : Routing) (k : Kind)
    (i j : OrtIndex) : (s.admitHead m q r k i).entry j =
      if j = i then { reuse := (s.entry i).reuse + 1, use := some (s.newUse m q r k) } else s.entry j := by
  rw [State.admitHead_eq, ← s.entry_admitted m q r k i j]
  exact State.entry_congr (by simp) j

theorem State.port_admitHead (s : State) {m : Master} (q : Request) (r : Routing) (k : Kind)
    (i : OrtIndex) (ha : (s.port m).state = .active) :
    ∃ ph, (s.port m).ingress.dataLeaves.Heads ((s.admitHead m q r k i).Routes m) ph ∧
      ∀ a, (s.admitHead m q r k i).port a =
        if a = m then { s.port m with resp := (s.port m).resp.admitHead i q k }.headLeaves ph
        else s.port a := by
  have before : ∀ a, ((s.admitted m q r k i).modResp m fun x => x.admitHead i q k).port a =
      if a = m then { s.port m with resp := (s.port m).resp.admitHead i q k } else s.port a :=
    fun a => (s.admitted m q r k i).port_modResp m a _
  have hm := before m
  rw [if_pos rfl] at hm
  obtain ⟨ph, hh, e⟩ := State.port_dataLeaves
    (s := (s.admitted m q r k i).modResp m fun x => x.admitHead i q k) (m := m) (by rw [hm]; exact ha)
  rw [hm] at hh
  refine ⟨ph, hh, fun a => ?_⟩
  rw [State.admitHead_eq, e, hm]
  split
  · rfl
  · next hn => rw [before, if_neg hn]

/-- The promises to the ORT (R56, R65, R89, R169). -/
def State.OrtPromises (s : State) : Prop :=
  ∀ i u, (s.entry i).use = some u → u.responseOwed = true →
    u.kind ≠ .writeP ∧ u.phase.counted = true ∧ (s.port u.master).state = .active ∧
    .ort i ∈ (s.port u.master).resp.reserved

theorem State.promiseLaw_iff : s.PromiseLaw ↔ s.OrtPromises ∧ ∀ m, (s.port m).HoldsSlots :=
  ⟨fun h => ⟨h.1, fun m => ⟨h.2.1 m, h.2.2 m⟩⟩,
    fun h => ⟨h.1, fun m => (h.2 m).1, fun m => (h.2 m).2⟩⟩

/-- The promises go on where the responses owed were owed before and no slot of theirs is lost. -/
theorem State.OrtPromises.continue (hs : s.OrtPromises) (hb : s.OwedBefore t)
    (hk : ∀ i u, (s.entry i).use = some u → u.responseOwed = true →
      (s.port u.master).state = .active → .ort i ∈ (s.port u.master).resp.reserved →
      (t.port u.master).state = .active ∧ .ort i ∈ (t.port u.master).resp.reserved) :
    t.OrtPromises := by
  intro i u hu ho
  obtain ⟨v, hv, hvo, hm, hkind, _, hc⟩ := hb i u hu ho
  obtain ⟨k1, k2, k3, k4⟩ := hs i v hv hvo
  rw [← hkind, ← hc, ← hm]
  exact ⟨k1, k2, hk i v hv hvo k3 k4⟩

/-- Admission passes the head's slot to the entry (R65). -/
theorem State.OrtPromises.admission {q : Request} {r : Routing} {k : Kind} (hs : s.OrtPromises)
    (hslot : .head ∈ (s.port m).resp.reserved) (ha : (s.port m).state = .active) :
    (s.admitHead m q r k i).OrtPromises := by
  obtain ⟨ph, _, hport⟩ := s.port_admitHead q r k i ha
  intro j u hu ho
  rw [s.entry_admitHead] at hu
  split at hu
  · next e =>
    cases hu
    have hk : k ≠ .writeP := by simpa [State.newUse] using ho
    refine ⟨hk, rfl, ?_⟩
    show ((s.admitHead m q r k i).port m).state = _ ∧ _ ∈ ((s.admitHead m q r k i).port m).resp.reserved
    rw [hport, if_pos rfl]
    exact ⟨ha, e ▸ ResponseUnit.mem_admitHead_ort hslot j q hk⟩
  · obtain ⟨h1, h2, h3, h4⟩ := hs j u hu ho
    refine ⟨h1, h2, ?_⟩
    rw [hport]
    split
    · next e => exact ⟨ha, ResponseUnit.mem_admitHead (e ▸ h4) (by simp) i q k⟩
    · exact ⟨h3, h4⟩

/-- A flush ends every promise to its master (R94). -/
theorem State.OrtPromises.flushPort (hs : s.OrtPromises) (m : Master) (d : PortState) :
    (s.flushPort m d).OrtPromises := by
  intro i w hw ho
  rw [s.entry_flushPort] at hw
  obtain ⟨u, hu, ha⟩ := Option.bind_eq_some_iff.mp hw
  obtain ⟨⟨huo, hm, hk, _, hc⟩, hend⟩ := State.afterFlush_owed ha ho
  obtain ⟨h1, h2, h3, h4⟩ := hs i u hu huo
  rw [← hm, ← hk, ← hc]
  have hn : u.master ≠ m := fun e => (hend e).elim h1 (by simp [h2])
  rw [State.flushPort_port, if_neg hn]
  exact ⟨h1, h2, h3, h4⟩

theorem State.PromiseLaw.move (h : Move s t) (hs : s.PromiseLaw) : t.PromiseLaw := by
  obtain ⟨hs, hp⟩ := State.promiseLaw_iff.mp hs
  refine State.promiseLaw_iff.mpr ⟨?_, holdsSlots_port.move h hp⟩
  rcases h.owed with hb | ⟨m, q, r, k, i, hq, hslot, _, _, rfl⟩
  · rcases h.port with hport | ⟨m, d, _, _, rfl⟩ | ⟨i, u, st, data, hn, rfl⟩
    · exact hs.continue hb fun i u _ _ => (hport u.master).keepsSlot
    · exact hs.flushPort m d
    · obtain ⟨x, hport⟩ := s.port_respond i u st data
      refine hs.continue hb fun j v hv ho ha hj => ?_
      have hji : j ≠ i := by
        rintro rfl
        rw [hn v hv] at ho
        cases ho
      rw [hport]
      split
      · next e => exact ⟨e ▸ ha, ResponseUnit.mem_fill (e ▸ hj) (by simp [hji]) x⟩
      · exact ⟨ha, hj⟩
  · exact hs.admission ((hp m).1 hslot) (State.headRequest_eq_some.mp hq).1

theorem PlaneMove.ort (h : PlaneMove s t) : t.ort = s.ort := by
  rcases h with ⟨⟨⟩⟩ | _ | _ | _ | _ <;> simp

theorem State.PromiseLaw.planeMove (h : PlaneMove s t) (hs : s.PromiseLaw) : t.PromiseLaw := by
  obtain ⟨hs, hp⟩ := State.promiseLaw_iff.mp hs
  refine State.promiseLaw_iff.mpr ⟨?_, holdsSlots_port.planeMove h hp⟩
  refine hs.continue (.of_same h.ort) fun i u _ _ ha hi => ?_
  obtain ⟨l, e⟩ := h.port u.master
  rw [e]
  exact List.foldlRecOn (motive := fun p : MasterPort => p.state = .active ∧ .ort i ∈ p.resp.reserved) l _
    ⟨ha, hi⟩ fun p hp n _ => PortMove.keepsSlot (E := fun _ _ => True) (.notify n) hp.1 hp.2

theorem State.powerOn_promiseLaw (straps : Straps) : (State.powerOn straps).PromiseLaw := by
  have port : ∀ m, (State.powerOn straps).port m = .powerOn := by simp [State.powerOn, State.port]
  refine State.promiseLaw_iff.mpr ⟨fun i u hu => ?_, fun m => ?_⟩
  · rw [State.powerOn_entry] at hu; cases hu
  · rw [port]; exact ⟨fun h => (nomatch h), fun h => absurd rfl h⟩

theorem MasterPort.powerOn_slotLaw : MasterPort.powerOn.SlotLaw := ⟨Nat.zero_le _, fun _ => ⟨rfl, rfl⟩⟩

end

/-- Settles O50: a slot is reserved only where one is FREE, and leaves its holder only by a response, a pass or
a flush. -/
theorem everyStepKeepsCompletionSlots : Obligations.EveryStepKeepsCompletionSlots := fun _ _ hs hp h =>
  ⟨slotLaw_port.step MasterPort.powerOn_slotLaw hs h,
    step_keeps (fun _ _ h hs => hs.move h) (fun _ _ h hs => hs.planeMove h) (fun _ _ _ h => h)
      (fun straps _ _ _ => State.powerOn_promiseLaw straps) hp h⟩

end Sys2Proof.Machine

namespace Sys2Proof.Machine

/-! ### The tags (R56) -/

section

variable {s t : State} {m : Master} {i : OrtIndex} {tag : Tag}

theorem OrtEntry.owes_iff (e : OrtEntry) (m : Master) (tag : Tag) : e.owes m tag = true ↔
    ∃ u, e.use = some u ∧ u.master = m ∧ u.phase.counted = true ∧ u.responseOwed = true ∧
      u.tag = tag := by
  unfold OrtEntry.owes
  cases e.use with
  | none => simp
  | some u => simp [and_assoc]

/-- The tag a response is owed under stays as long as it is owed. -/
theorem State.OwedBefore.owes (h : s.OwedBefore t) (ho : (t.entry i).owes m tag = true) :
    (s.entry i).owes m tag = true := by
  obtain ⟨u, hu, hm, hc, huo, ht⟩ := (OrtEntry.owes_iff ..).mp ho
  obtain ⟨v, hv, hvo, h1, _, h3, h4⟩ := h i u hu huo
  exact (OrtEntry.owes_iff ..).mpr ⟨v, hv, h1.trans hm, h4.trans hc, hvo, h3.trans ht⟩

theorem State.tagFree_eq_true : s.tagFree m tag = true ↔ ∀ i, (s.entry i).owes m tag = false := by
  simp [State.tagFree, ortIndices]

theorem State.OwedBefore.tagFree (h : s.OwedBefore t) (hf : s.tagFree m tag = true) :
    t.tagFree m tag = true := by
  rw [State.tagFree_eq_true] at hf ⊢
  intro i
  by_contra ho
  exact absurd (h.owes (Bool.eq_true_of_not_eq_false ho)) (by simp [hf i])

/-- No two entries owe their master responses under one tag. -/
def State.TagsDistinct (s : State) : Prop :=
  ∀ m tag i j, (s.entry i).owes m tag = true → (s.entry j).owes m tag = true → i = j

theorem State.admitHead_owes_new {a : Master} {q : Request} {r : Routing} {k : Kind}
    (h : ((s.admitHead m q r k i).entry i).owes a tag = true) :
    a = m ∧ tag = q.tag ∧ k ≠ .writeP := by
  obtain ⟨u, hu, hm, _, ho, ht⟩ := (OrtEntry.owes_iff ..).mp h
  rw [s.entry_admitHead, if_pos rfl] at hu
  cases hu
  exact ⟨hm.symm, ht.symm, by simpa [State.newUse] using ho⟩

theorem State.admitHead_owes_old {a : Master} {q : Request} {r : Routing} {k : Kind} {j : OrtIndex}
    (hj : j ≠ i) (h : ((s.admitHead m q r k i).entry j).owes a tag = true) :
    (s.entry j).owes a tag = true := by
  rw [s.entry_admitHead, if_neg hj] at h
  exact h

/-- The tag of the entry that admission makes was free, if its response is owed. -/
theorem State.TagsDistinct.admission {q : Request} {r : Routing} {k : Kind} (hs : s.TagsDistinct)
    (hf : k ≠ .writeP → s.tagFree m q.tag = true) : (s.admitHead m q r k i).TagsDistinct := by
  have other : ∀ {a tag j}, j ≠ i → ((s.admitHead m q r k i).entry i).owes a tag = true →
      ((s.admitHead m q r k i).entry j).owes a tag = true → False := by
    intro a tag j hj hi ho
    obtain ⟨rfl, rfl, hk⟩ := State.admitHead_owes_new hi
    have free := State.tagFree_eq_true.mp (hf hk) j
    rw [State.admitHead_owes_old hj ho] at free
    cases free
  intro a tag j l hj hl
  by_cases ej : j = i
  · subst ej
    by_contra hn
    exact other (Ne.symm hn) hj hl
  · by_cases el : l = i
    · subst el
      exact (other ej hl hj).elim
    · exact hs a tag j l (State.admitHead_owes_old ej hj) (State.admitHead_owes_old el hl)

theorem State.admitHead_tagFree {a : Master} {q : Request} {r : Routing} {k : Kind} (ha : a ≠ m)
    (hf : s.tagFree a tag = true) : (s.admitHead m q r k i).tagFree a tag = true := by
  rw [State.tagFree_eq_true] at hf ⊢
  intro j
  by_contra ho
  have ho := Bool.eq_true_of_not_eq_false ho
  by_cases ej : j = i
  · subst ej
    exact ha (State.admitHead_owes_new ho).1
  · exact absurd (State.admitHead_owes_old ej ho) (by simp [hf j])

/-- A head routed as non-posted has a tag with `T`. -/
def MasterPort.RoutedOnly (T : Request → Prop) (p : MasterPort) : Prop :=
  ∀ q r k, p.ingress.frontRequest = some q → p.ingress.headPhase = .routed r k → k ≠ .writeP → T q

theorem MasterPort.RoutedOnly.mono {T U : Request → Prop} {p : MasterPort} (hp : p.RoutedOnly T)
    (h : ∀ q, T q → U q) : p.RoutedOnly U := fun q r k hq hr hk => h q (hp q r k hq hr hk)

theorem MasterPort.RoutedOnly.of_heads {E : Request → HeadPhase → Prop} {T : Request → Prop}
    (hE : ∀ q r k, E q (.routed r k) → k ≠ .writeP → T q) {p : MasterPort} {g : Ingress}
    {ph : HeadPhase} (hh : g.Heads E ph) (hg : p.ingress = { g with headPhase := ph }) :
    p.RoutedOnly T := by
  intro q r k hq hr
  rw [hg] at hq hr
  have front : g.frontRequest = some q := hq
  have routed : ph = .routed r k := hr
  exact hE q r k (routed ▸ hh.1 q front)

theorem MasterPort.RoutedOnly.event {E : Request → HeadPhase → Prop} {T : Request → Prop}
    (hE : ∀ q r k, E q (.routed r k) → k ≠ .writeP → T q) {p q : MasterPort} (h : PortEvent E p q)
    (hp : p.RoutedOnly T) : q.RoutedOnly T := by
  cases h with
  | answer => exact hp
  | flush d l =>
    intro _ r k _ hr
    simp only [MasterPort.flushed, Ingress.flush] at hr
    split at hr <;> cases hr
  | move h =>
    cases h with
    | notify n =>
      rw [MasterPort.RoutedOnly, MasterPort.notify_ingress]
      exact hp
    | takeData pkt _ _ hq =>
      intro q r k hr hph
      rw [Ingress.frontRequest_takeData hq] at hr
      rw [Ingress.headPhase_takeData hq] at hph
      exact hp q r k hr hph
    | takeHead pkt ph _ _ _ hh => exact .of_heads hE hh rfl
    | route q ph hq he =>
      intro q' r k hq' hr
      cases hq.symm.trans hq'
      have routed : ph = .routed r k := hr
      exact hE q r k (routed ▸ he)
    | refuse x ph _ _ hh => exact .of_heads hE hh rfl
    | refuseFree x ph _ _ _ hh => exact .of_heads hE hh rfl
    | admission i r k ph _ _ hh => exact .of_heads hE hh rfl
    | takeFence tag l ph _ _ _ hh =>
      refine .of_heads hE hh ?_
      rw [MasterPort.headLeaves, MasterPort.fenceTaken_ingress]
    | _ => exact hp

/-- An empty data queue has no routed head (section 3.2). -/
def MasterPort.NoStrayHead (p : MasterPort) : Prop :=
  p.ingress.dataQueue = [] → p.ingress.headPhase = .unrouted

theorem MasterPort.NoStrayHead.of_heads {E : Request → HeadPhase → Prop} {p : MasterPort} {g : Ingress}
    {ph : HeadPhase} (hh : g.Heads E ph) (hg : p.ingress = { g with headPhase := ph }) :
    p.NoStrayHead := by
  intro hq
  rw [hg] at hq ⊢
  have empty : g.dataQueue = [] := hq
  exact hh.2 (by simp [Ingress.frontRequest, empty])

theorem noStrayHead_port : PortLaw MasterPort.NoStrayHead := by
  intro E p q h hp
  cases h with
  | answer => exact hp
  | flush d l =>
    intro _
    simp only [MasterPort.flushed, Ingress.flush]
    split <;> rfl
  | move h =>
    cases h with
    | notify n =>
      rw [MasterPort.NoStrayHead, MasterPort.notify_ingress]
      exact hp
    | takeData pkt => exact fun h => by simp at h
    | takeHead pkt ph _ _ _ hh => exact .of_heads hh rfl
    | route q ph hq => exact fun h => absurd h (Ingress.queue_of_frontRequest hq)
    | refuse x ph _ _ hh => exact .of_heads hh rfl
    | refuseFree x ph _ _ _ hh => exact .of_heads hh rfl
    | admission i r k ph _ _ hh => exact .of_heads hh rfl
    | takeFence tag l ph _ _ _ hh =>
      refine .of_heads hh ?_
      rw [MasterPort.headLeaves, MasterPort.fenceTaken_ingress]
    | _ => exact hp

/-- A request whose tag is free at master `m`. -/
def State.FreeTag (s : State) (m : Master) (q : Request) : Prop := s.tagFree m q.tag = true

theorem State.tagLaw_iff : s.TagLaw ↔ s.TagsDistinct ∧
    (∀ m, (s.port m).RoutedOnly (s.FreeTag m)) ∧ ∀ m, (s.port m).NoStrayHead := Iff.rfl

theorem State.freeTag_of_routes {q : Request} {r : Routing} {k : Kind}
    (h : t.Routes m q (.routed r k)) (hk : k ≠ .writeP) : t.FreeTag m q :=
  (State.routePhase_routed (Eq.symm h)).2.2.2 hk

theorem State.TagLaw.move (h : Move s t) (hs : s.TagLaw) : t.TagLaw := by
  obtain ⟨h1, h2, h3⟩ := State.tagLaw_iff.mp hs
  refine State.tagLaw_iff.mpr ⟨?_, fun a => ?_, noStrayHead_port.move h h3⟩ <;>
    rcases h.owed with hb | ⟨m, q, r, k, i, hq, _, hp, hi, rfl⟩
  · exact fun m tag i j hi hj => h1 m tag i j (hb.owes hi) (hb.owes hj)
  · exact h1.admission fun hk => h2 m q r k (State.headRequest_eq_some.mp hq).2 hp hk
  · exact .event (fun _ _ _ => State.freeTag_of_routes) (h.portEvent a)
      ((h2 a).mono fun q => hb.tagFree)
  · obtain ⟨ph, hh, e⟩ := s.port_admitHead q r k i (State.headRequest_eq_some.mp hq).1
    rw [e]
    split
    · next ha => subst ha; exact .of_heads (fun _ _ _ => State.freeTag_of_routes) hh rfl
    · next ha => exact (h2 a).mono fun _ => State.admitHead_tagFree ha

theorem State.TagLaw.planeMove (h : PlaneMove s t) (hs : s.TagLaw) : t.TagLaw := by
  obtain ⟨h1, h2, h3⟩ := State.tagLaw_iff.mp hs
  have hb : s.OwedBefore t := .of_same h.ort
  refine State.tagLaw_iff.mpr ⟨fun m tag i j hi hj => h1 m tag i j (hb.owes hi) (hb.owes hj), fun a => ?_,
    noStrayHead_port.planeMove h h3⟩
  obtain ⟨l, e⟩ := h.port a
  rw [e]
  refine List.foldlRecOn (motive := fun p : MasterPort => p.RoutedOnly (t.FreeTag a)) l _
    ((h2 a).mono fun _ => hb.tagFree) fun p hp n _ => ?_
  rw [MasterPort.RoutedOnly, MasterPort.notify_ingress]
  exact hp

theorem State.powerOn_port (straps : Straps) (m : Master) :
    (State.powerOn straps).port m = .powerOn := by
  simp [State.powerOn, State.port]

theorem State.powerOn_tagLaw (straps : Straps) : (State.powerOn straps).TagLaw := by
  refine State.tagLaw_iff.mpr ⟨fun m tag i j hi => ?_, fun m q r k _ hr => ?_, fun m _ => ?_⟩
  · obtain ⟨u, hu, _⟩ := (OrtEntry.owes_iff ..).mp hi
    rw [State.powerOn_entry] at hu
    cases hu
  · rw [State.powerOn_port] at hr
    cases hr
  · rw [State.powerOn_port]
    rfl

end

/-- Settles O57: only admission makes a response owed, and the head's tag was free in its event. -/
theorem everyStepKeepsTagsDistinct : Obligations.EveryStepKeepsTagsDistinct := fun _ _ =>
  step_keeps (fun _ _ h hs => hs.move h) (fun _ _ h hs => hs.planeMove h) (fun _ _ _ h => h)
    fun straps _ _ _ => State.powerOn_tagLaw straps

/-! ### The routings that heads hold (R16) -/

section

variable {s t : State}

/-- A routing that the head holds names the plane live under its generation. -/
def MasterPort.RoutingLaw (p : MasterPort) : Prop :=
  ∀ r k, p.ingress.headPhase = .routed r k → r.plane = livePlane r.generation

theorem MasterPort.RoutingLaw.of_heads {E : Request → HeadPhase → Prop}
    (hE : ∀ q r k, E q (.routed r k) → r.plane = livePlane r.generation) {p : MasterPort}
    {g : Ingress} {ph : HeadPhase} (hh : g.Heads E ph) (hg : p.ingress.headPhase = ph) :
    p.RoutingLaw := by
  intro r k hr
  have routed : ph = .routed r k := hg.symm.trans hr
  cases hf : g.frontRequest with
  | none => exact absurd ((hh.2 hf).symm.trans routed) (by simp)
  | some q => exact hE q r k (routed ▸ hh.1 q hf)

theorem MasterPort.RoutingLaw.event {E : Request → HeadPhase → Prop}
    (hE : ∀ q r k, E q (.routed r k) → r.plane = livePlane r.generation) {p q : MasterPort}
    (h : PortEvent E p q) (hp : p.RoutingLaw) : q.RoutingLaw := by
  cases h with
  | answer => exact hp
  | flush d l =>
    intro r k hr
    simp only [MasterPort.flushed, Ingress.flush] at hr
    split at hr <;> cases hr
  | move h =>
    cases h with
    | notify n =>
      rw [MasterPort.RoutingLaw, MasterPort.notify_ingress]
      exact hp
    | takeData pkt _ _ hq =>
      rw [MasterPort.RoutingLaw, Ingress.headPhase_takeData hq]
      exact hp
    | takeHead pkt ph _ _ _ hh => exact .of_heads hE hh rfl
    | route q ph hq he =>
      intro r k hr
      have routed : ph = .routed r k := hr
      exact hE q r k (routed ▸ he)
    | refuse x ph _ _ hh => exact .of_heads hE hh rfl
    | refuseFree x ph _ _ _ hh => exact .of_heads hE hh rfl
    | admission i r k ph _ _ hh => exact .of_heads hE hh rfl
    | takeFence tag l ph _ _ _ hh => exact .of_heads hE hh rfl
    | _ => exact hp

theorem State.RoutingLaw.move (h : Move s t) (hs : s.RoutingLaw) : t.RoutingLaw := fun m =>
  MasterPort.RoutingLaw.event (fun _ _ _ hr => by
    obtain ⟨hp, hg, _⟩ := State.routePhase_routed (Eq.symm hr)
    rw [hp, hg, State.live]) (h.portEvent m) (hs m)

theorem State.RoutingLaw.planeMove (h : PlaneMove s t) (hs : s.RoutingLaw) : t.RoutingLaw := by
  intro m
  obtain ⟨l, e⟩ := h.port m
  rw [e]
  refine List.foldlRecOn (motive := MasterPort.RoutingLaw) l _ (hs m) fun p hp n _ => ?_
  rw [MasterPort.RoutingLaw, MasterPort.notify_ingress]
  exact hp

theorem State.powerOn_routingLaw (straps : Straps) : (State.powerOn straps).RoutingLaw := by
  intro m r k h
  rw [State.powerOn_port] at h
  cases h

/-! ### The plane counts (R39) -/

theorem State.namesPlane_of_some {i : OrtIndex} {u : OrtUse} (h : (s.entry i).use = some u)
    (p : PlaneId) : s.namesPlane p i = (u.phase.counted && u.plane == p) := by
  simp only [State.namesPlane, h]

theorem State.namesPlane_of_none {i : OrtIndex} (h : (s.entry i).use = none) (p : PlaneId) :
    s.namesPlane p i = false := by
  simp only [State.namesPlane, h]

/-- Each plane's count is that of the entries that name it, with the decrements on their way. -/
def State.CountsMatch (s : State) : Prop :=
  ∀ p : PlaneId, s.refCounts[p] = ortIndices.countP (s.namesPlane p) + s.decrements[p]

theorem State.CountsMatch.update (hs : s.CountsMatch) (i : OrtIndex)
    (hne : ∀ j, j ≠ i → t.entry j = s.entry j)
    (hh : ∀ p : PlaneId, t.refCounts[p] + (s.namesPlane p i).toNat + s.decrements[p] =
      s.refCounts[p] + (t.namesPlane p i).toNat + t.decrements[p]) : t.CountsMatch := by
  intro p
  have count := countP_ort_update (p := s.namesPlane p) (q := t.namesPlane p) i fun j hj => by
    rw [State.namesPlane, State.namesPlane, hne j hj]
  have := hs p
  have := hh p
  omega

/-- An entry rewritten with its place among the counted stays in its plane's count. -/
theorem State.CountsMatch.rewrite {i : OrtIndex} {u v : OrtUse} (hs : s.CountsMatch)
    (hu : (s.entry i).use = some u)
    (he : ∀ j, t.entry j = if j = i then { s.entry i with use := some v } else s.entry j)
    (hc : v.phase.counted = u.phase.counted ∧ v.plane = u.plane) (hr : t.refCounts = s.refCounts)
    (hd : t.decrements = s.decrements) : t.CountsMatch := by
  refine hs.update i (fun j hj => by rw [he, if_neg hj]) fun p => ?_
  have hv : (t.entry i).use = some v := by rw [he, if_pos rfl]
  rw [State.namesPlane_of_some hu, State.namesPlane_of_some hv, hc.1, hc.2, hr, hd]

/-- An entry that leaves the counted has sent its decrement (R75, R84). -/
theorem State.CountsMatch.leave {i : OrtIndex} {u : OrtUse} {w : Option OrtUse} (hs : s.CountsMatch)
    (hu : (s.entry i).use = some u) (hc : u.phase.counted = true)
    (he : ∀ j, t.entry j = if j = i then { s.entry i with use := w } else s.entry j)
    (hw : ∀ v, w = some v → v.phase.counted = false) (hr : t.refCounts = s.refCounts)
    (hd : ∀ p : PlaneId, t.decrements[p] = s.decrements[p] + if u.plane = p then 1 else 0) :
    t.CountsMatch := by
  refine hs.update i (fun j hj => by rw [he, if_neg hj]) fun p => ?_
  have hv : (t.entry i).use = w := by rw [he, if_pos rfl]
  have off : t.namesPlane p i = false := by
    cases hw' : w with
    | none => exact State.namesPlane_of_none (hv.trans hw') p
    | some v => rw [State.namesPlane_of_some (hv.trans hw'), hw v hw', Bool.false_and]
  rw [State.namesPlane_of_some hu, off, hr, hd, hc]
  by_cases hp : u.plane = p
  · simp only [hp, if_true, Bool.true_and, beq_self_eq_true, Bool.toNat_true, Bool.toNat_false]
    omega
  · simp [hp]

theorem countsMatch_table : TableLaw State.CountsMatch where
  congr s t ho _ _ _ hr hd hs p := by
    have names : t.namesPlane p = s.namesPlane p := funext fun i => by
      simp only [State.namesPlane, State.entry_congr ho]
    rw [hr, hd, hs p, names]
  decrement s p hd hs a := by
    have := hs a
    have dec : (s.decremented p).decrements[a] =
        if a = p then s.decrements[p] - 1 else s.decrements[a] := vector_getElem_set ..
    have cnt : (s.decremented p).refCounts[a] =
        if a = p then s.refCounts[p] - 1 else s.refCounts[a] := vector_getElem_set ..
    rw [dec, cnt]
    show _ = ortIndices.countP (s.namesPlane a) + _
    split
    · next e => subst e; omega
    · exact this
  retire s i u hu hc hs :=
    hs.leave hu hc (s.entry_retire i u) (fun _ h => nomatch h) (by simp) fun p => by
      simp only [State.retire, State.clearEntry_decrements, s.release_decrements]
  lapse s i u hu hp hs :=
    hs.leave hu (by cases h : u.phase <;> simp_all [OrtPhase.isIssued, OrtPhase.counted])
      (s.entry_lapse i u) (by rintro _ ⟨⟩; rfl) (by simp) fun p => by
      simp only [State.lapse, State.setUse_decrements, s.release_decrements]
  clear s i u hu hc hs := by
    refine hs.update i (fun j hj => by rw [s.entry_clearEntry, if_neg hj]) fun p => ?_
    have hv : ((s.clearEntry i u).entry i).use = none := by rw [s.entry_clearEntry, if_pos rfl]
    rw [State.namesPlane_of_some hu, State.namesPlane_of_none hv, hc]
    simp
  silence s i u hu hs := hs.rewrite hu (s.entry_setUse i · _) ⟨rfl, rfl⟩ rfl rfl
  backOff s i u d b n hu hp _ hs :=
    hs.rewrite hu (s.entry_backedOff i · u d b n) ⟨by rw [hp]; rfl, rfl⟩ rfl rfl
  endBackoff s i u d b hu hp hs :=
    hs.rewrite hu (s.entry_setUse i · _) ⟨by rw [hp]; rfl, rfl⟩ rfl rfl
  issue s a m i u d hu hp _ hs :=
    hs.rewrite hu (s.entry_leftLane a m i · u d) ⟨by rw [hp]; rfl, rfl⟩ rfl rfl
  admission s m q r k i hu _ hs := by
    have he := fun j => s.entry_admitted m q r k i j
    refine hs.update i (fun j hj => by rw [he, if_neg hj]) fun p => ?_
    have hv : ((s.admitted m q r k i).entry i).use = some (s.newUse m q r k) := by rw [he, if_pos rfl]
    have cnt : (s.admitted m q r k i).refCounts[p] =
        if p = r.plane then s.refCounts[r.plane] + 1 else s.refCounts[p] := vector_getElem_set ..
    rw [State.namesPlane_of_none hu, State.namesPlane_of_some hv, cnt]
    show _ + s.decrements[p] = _ + _ + s.decrements[p]
    by_cases hp : p = r.plane
    · simp [hp, State.newUse, OrtPhase.counted]
    · simp [hp, State.newUse, Ne.symm hp]

/-- The plane that is not live counts no entry, but for the old plane in DRAINING. -/
def State.OtherIdle (s : State) : Prop := s.planeState ≠ .draining → s.refCounts[s.other] = 0

theorem State.admitHead_refCounts (s : State) (m : Master) (q : Request) (r : Routing) (k : Kind)
    (i : OrtIndex) (p : PlaneId) : (s.admitHead m q r k i).refCounts[p] =
      if p = r.plane then s.refCounts[r.plane] + 1 else s.refCounts[p] := by
  have e : (s.admitHead m q r k i).refCounts = (s.setCount r.plane (s.refCounts[r.plane] + 1)).refCounts := by
    rw [State.admitHead_eq]
    simp
    rfl
  simp only [e, s.setCount_refCounts]

/-- Of the moves, admission alone raises a count, and that of the live plane (R40, R63). -/
theorem Move.refCounts_other (h : Move s t) (hr : s.RoutingLaw) :
    t.refCounts[s.other] ≤ s.refCounts[s.other] := by
  cases h with
  | decrement p =>
    have cnt : (s.decremented p).refCounts[s.other] =
        if s.other = p then s.refCounts[p] - 1 else s.refCounts[s.other] := vector_getElem_set ..
    rw [cnt]
    split
    · next e => rw [← e]; exact Nat.sub_le _ _
    · exact Nat.le_refl _
  | admission m q r k i _ _ hp hg =>
    have live : r.plane = s.live := (hr m r k hp).trans (by rw [hg, State.live])
    rw [s.admitHead_refCounts, if_neg (live ▸ s.other_ne_live)]
  | _ => exact Nat.le_of_eq (by simp [State.grantSlot, State.takeOperation])

theorem State.OtherIdle.move (h : Move s t) (hr : s.RoutingLaw) (hs : s.OtherIdle) : t.OtherIdle := by
  intro hd
  have other : t.other = s.other := by simp only [State.other, State.live, h.generation]
  have idle := hs (h.planeState ▸ hd)
  have le := h.refCounts_other hr
  simp only [other]
  omega

theorem State.OtherIdle.completeSwitch (hz : s.refCounts[s.live] = 0) : s.completeSwitch.OtherIdle := by
  intro _
  simp only [State.completeSwitch, State.reconcile_other, State.flip_other, State.reconcile_refCounts,
    State.flip_refCounts]
  exact hz

theorem State.OtherIdle.planeMove (h : PlaneMove s t) (hs : s.OtherIdle) : t.OtherIdle := by
  cases h with
  | state h => cases h with | mk ps hd => exact fun _ => hs hd
  | edit => exact hs
  | reconcile hz =>
    intro _
    simp only [State.reconcile_other, State.reconcile_refCounts]
    exact hz
  | completeSwitch hz => exact .completeSwitch hz
  | immediateSwitch =>
    rcases s.immediateSwitch_cases with ⟨hz, e⟩ | ⟨_, e⟩
    · rw [e]; exact .completeSwitch hz
    · rw [e]; exact fun hd => absurd rfl hd

theorem State.powerOn_countLaw (straps : Straps) : (State.powerOn straps).CountLaw := by
  refine ⟨fun p => ?_, fun _ => by simp [State.powerOn]⟩
  rw [List.countP_eq_zero.mpr fun i _ => by
    simp [State.namesPlane_of_none (State.powerOn_entry straps i) p]]
  simp [State.powerOn]

end

/-- Settles O55: the counts follow the entries move by move, and admission counts toward the live plane. -/
theorem everyStepKeepsPlaneCounts : Obligations.EveryStepKeepsPlaneCounts := by
  intro s t hr hc h
  exact step_keeps (P := fun s => s.RoutingLaw ∧ s.CountsMatch ∧ s.OtherIdle)
    (fun _ _ h ⟨h1, h2, h3⟩ => ⟨h1.move h, countsMatch_table.move h h2, h3.move h h1⟩)
    (fun _ _ h ⟨h1, h2, h3⟩ => ⟨h1.planeMove h, countsMatch_table.planeMove h h2, h3.planeMove h⟩)
    (fun _ _ _ h => h)
    (fun straps _ _ _ => ⟨State.powerOn_routingLaw straps, State.powerOn_countLaw straps⟩)
    ⟨hr, hc⟩ h

end Sys2Proof.Machine

namespace Sys2Proof.Machine

theorem State.powerOn_laws (straps : Straps) :
    let s := State.powerOn straps
    s.IngressLaw ∧ s.SlotLaw ∧ s.PromiseLaw ∧ s.NoticeLaw ∧ s.ResponseCreditLaw ∧ s.TargetCreditLaw ∧
    s.OverlapLaw ∧ s.HolderLaw ∧ s.SettingsLaw ∧ s.RoutingLaw ∧ s.CountLaw ∧ s.HeldLaw ∧ s.PoolLaw ∧
    s.LaneLaw ∧ s.TagLaw ∧ s.HeadLaw ∧ s.SaturationLaw :=
  ⟨PortLaw.powerOn MasterPort.powerOn_ingressLaw straps,
    PortLaw.powerOn MasterPort.powerOn_slotLaw straps, State.powerOn_promiseLaw straps,
    PortLaw.powerOn MasterPort.powerOn_noticeLaw straps,
    PortLaw.powerOn MasterPort.powerOn_responseCreditLaw straps,
    State.powerOn_targetCreditLaw straps, State.powerOn_overlapLaw straps,
    State.powerOn_holderLaw straps, State.powerOn_settingsLaw straps, State.powerOn_routingLaw straps,
    State.powerOn_countLaw straps, State.powerOn_heldLaw straps, State.powerOn_poolLaw straps,
    State.powerOn_laneLaw straps, State.powerOn_tagLaw straps, State.powerOn_headLaw straps,
    State.powerOn_saturationLaw straps⟩

/-- Settles O48: each law at power-on, and reset is the power-on with the straps of log 4. -/
theorem lawsHoldAtPowerOn : Obligations.LawsHoldAtPowerOn := by
  rintro straps s (rfl | rfl)
  · exact State.powerOn_laws straps
  · exact State.powerOn_laws Config.resetStraps

/-- Settles O1: the front command runs on the state with the queue's rest. -/
theorem stepRunsFrontCommand : Obligations.StepRunsFrontCommand := fun _ _ _ => step_of_cons rfl

/-- The passing of time leaves all but the timebase and the ports, and of these all but the stall timers
that run (R148, R193). -/
theorem State.passTime_eq (s : State) (d : Nat) :
    ∃ ports : Vector MasterPort 4, s.passTime d = { s with now := s.now + d, masters := ports } ∧
      ∀ m : Master, ports[m] =
        { s.masters[m] with resp := { s.masters[m].resp with
            stallElapsed :=
              if s.masters[m].state = .active ∧ s.masters[m].resp.credits = 0 ∧
                  (s.masters[m].resp.notices ≠ [] ∨ s.masters[m].resp.filled ≠ []) then
                s.masters[m].resp.stallElapsed + d
              else s.masters[m].resp.stallElapsed } } :=
  ⟨(s.passTime d).masters, rfl, fun m => by
    have port := s.port_passTime d m
    simp only [MasterPort.stallRuns_iff] at port
    exact port⟩

theorem idleStep_off {s : State} (h : s.pwronN = false) : idleStep s = .next s := by
  simp [idleStep, h]

/-- Settles O2: the choice is among what is ready or due and, with nothing due, the passing of time. -/
theorem emptyQueueTakesReadyEventOrTicks : Obligations.EmptyQueueTakesReadyEventOrTicks := by
  refine ⟨fun s hs => ?_, fun s d => ⟨s.passTime_eq d, fun _ => rfl⟩⟩
  rw [step_of_nil hs]
  exact ⟨idleStep_off, idleStep_cases⟩

end Sys2Proof.Machine

namespace Sys2Proof.Machine

/-! ### Every command -/

section

variable {s t : State}

theorem Move.pending (h : Move s t) : t.pending = s.pending := by
  cases h <;> simp [State.grantSlot, State.takeOperation, State.decremented]

theorem PlaneMove.pending (h : PlaneMove s t) : t.pending = s.pending := by
  rcases h with ⟨⟨⟩⟩ | _ | _ | _ | _ <;> simp

theorem EventBy.pending (h : Event s t) : t.pending = s.pending :=
  h.keeps (P := fun u => u.pending = s.pending) (fun _ _ h e => h.pending.trans e)
    (fun _ _ h e => h.pending.trans e) (fun _ _ e => e) rfl

end

/-- Settles O3: an event of the part is one of moves, and no move touches the queue. -/
theorem everyCommandAnswersNext : Obligations.EveryCommandAnswersNext := by
  intro c s
  by_cases h1 : c = .pwronLow
  · subst h1; exact ⟨_, rfl, rfl⟩
  by_cases h2 : ∃ a b d e, c = .powerOn a b d e
  · obtain ⟨a, b, d, e, rfl⟩ := h2; exact ⟨_, rfl, rfl⟩
  have h2 : ∀ a b d e, c ≠ .powerOn a b d e := fun a b d e hc => h2 ⟨a, b, d, e, hc⟩
  obtain ⟨f, hf⟩ := exec_takes_event c h1 h2
  exact ⟨_, hf s, EventBy.pending (exec_event c h1 h2 (hf s))⟩

theorem State.powerOn_window (straps : Straps) (p : PlaneId) (i : WindowIndex) :
    (State.powerOn straps).window p i = if i = 0 then bootWindow straps else .zero := by
  have plane : (State.powerOn straps).window p i = (bootPlane straps)[i] := by
    simp [State.powerOn, State.window]
  rw [plane]
  refine (vector_getElem_set (Vector.replicate 32 Window.zero) 0 i (bootWindow straps)).trans ?_
  split <;> simp

theorem State.powerOn_entry_eq (straps : Straps) (i : OrtIndex) :
    (State.powerOn straps).entry i = .powerOn := by
  simp [State.powerOn, State.entry]

theorem State.powerOn_target (straps : Straps) (a : Target) :
    (State.powerOn straps).target a = .powerOn straps.tpresent[a] := by
  simp [State.powerOn, State.target]

theorem State.powerOn_master (straps : Straps) (m : Master) :
    (State.powerOn straps).held[m] = 0 ∧ (State.powerOn straps).flushReports[m] = 0 ∧
      (∀ a : Target, (State.powerOn straps).announcements[m][a] = 0) ∧
      (State.powerOn straps).limits m = defaultLimits := by
  simp [State.powerOn, State.limits, ControlUnit.powerOn]

/-- Settles O4: the power-on state, part by part. -/
theorem powerOnGivesPowerOnValues : Obligations.PowerOnGivesPowerOnValues := by
  intro mp tp ad bz s
  let straps : Straps := ⟨mp, tp, ad, bz⟩
  refine ⟨{ State.powerOn straps with pending := s.pending, choices := s.choices }, rfl, rfl, rfl, rfl,
    rfl, rfl, fun p => by simp [State.powerOn], fun p => ?_, fun p i hi => ?_, fun m => ?_, rfl, rfl, rfl,
    rfl, State.powerOn_entry_eq straps, rfl, State.powerOn_lane straps, State.powerOn_target straps⟩
  · exact (State.powerOn_window straps p 0).trans (if_pos rfl)
  · exact (State.powerOn_window straps p i).trans (if_neg hi)
  · exact ⟨State.powerOn_port straps m, State.powerOn_master straps m⟩

/-- A packet or link event of chapter 9 is one of its port. -/
theorem exec_of_masterPort {c : Instr} {m : Master} (h : c.masterPort? = some m) :
    ∃ f, ∀ s, exec c s = takePortEvent m s f := by
  cases c <;> cases h <;> exact ⟨_, fun _ => rfl⟩

/-- Settles O5: by what the power-on values are, and by the guards of an event and of a port's event. -/
theorem noEventWithoutPowerOrPort : Obligations.NoEventWithoutPowerOrPort := by
  refine ⟨fun s => ?_, fun c s hp h1 h2 => ?_, fun c m s hm hn => ?_⟩
  · refine ⟨{ State.powerOn Straps.none with
      pwronN := false, pending := s.pending, choices := s.choices }, rfl, rfl,
      State.powerOn_entry Straps.none, rfl, rfl, fun m => ?_⟩
    have port := State.powerOn_port Straps.none m
    exact ⟨congrArg MasterPort.state port, congrArg (·.ingress.dataQueue) port,
      congrArg (·.ingress.controlQueue) port, congrArg (·.resp.notices) port,
      congrArg (·.resp.filled) port⟩
  · obtain ⟨f, hf⟩ := exec_takes_event c h1 h2
    rw [hf, takeEvent_off hp]
  · obtain ⟨f, hf⟩ := exec_of_masterPort hm
    simp [hf, takePortEvent, takeEvent, hn]

end Sys2Proof.Machine

namespace Sys2Proof.Machine

/-! ### Updates of one port -/

section

variable {s : State} {m : Master}

theorem State.modPort_congr {f g : MasterPort → MasterPort} (h : f (s.port m) = g (s.port m)) :
    s.modPort m f = s.modPort m g := by
  rw [State.modPort, State.modPort, h]

theorem State.modPort_modPort (s : State) (m : Master) (f g : MasterPort → MasterPort) :
    (s.modPort m f).modPort m g = s.modPort m fun p => g (f p) := by
  rw [State.modPort, State.port_modPort, if_pos rfl, State.modPort, State.setPort_setPort, State.modPort]

theorem State.modIngress_congr {f g : Ingress → Ingress}
    (h : f (s.port m).ingress = g (s.port m).ingress) : s.modIngress m f = s.modIngress m g :=
  State.modPort_congr (by rw [h])

theorem State.modResp_congr {f g : ResponseUnit → ResponseUnit}
    (h : f (s.port m).resp = g (s.port m).resp) : s.modResp m f = s.modResp m g :=
  State.modPort_congr (by rw [h])

theorem takePortEvent_on (h : s.HearsMaster m) (f : State → State) :
    takePortEvent m s f = .next (f s) := by
  rw [takePortEvent, takeEvent_on h.1, if_pos h.2]

theorem State.oneMoreFault_eq (s : State) (m : Master) : s.oneMoreFault m = s.fault m := rfl

/-! ### Packets that arrive (R49 to R54) -/

theorem exec_of_dataPacket {c : Instr} {pkt : DataPacket} (h : c.dataPacket? = some (m, pkt))
    (hm : s.HearsMaster m) : exec c s = .next (s.arriveData m pkt) := by
  cases c with
  | read a tag len addr =>
    cases h
    have arm : exec (.read m tag len addr) s = execRead m tag len addr s := rfl
    rw [arm, execRead, takePortEvent_on hm]
  | fence a tag =>
    cases h
    have arm : exec (.fence m tag) s = execFence m tag s := rfl
    rw [arm, execFence, takePortEvent_on hm]
  | write a tag len addr data =>
    have arm : exec (.write a tag len addr data) s = execWrite a tag len addr data s := rfl
    simp only [Instr.dataPacket?] at h
    split at h
    · next hf => cases h; rw [arm, execWrite, takePortEvent_on hm, if_pos hf]
    · cases h
  | _ => cases h

theorem State.arriveData_active (ha : (s.port m).state = .active)
    (ho : (s.port m).ingress.dataOutstanding ≠ 0) (pkt : DataPacket) :
    s.arriveData m pkt = s.takeData m pkt := by
  simp only [State.arriveData, ha, ho, if_false]

theorem State.arriveData_quarantined (ha : (s.port m).state = .quarantined)
    (ho : (s.port m).ingress.dataOutstanding ≠ 0) (pkt : DataPacket) :
    s.arriveData m pkt = s.modIngress m Ingress.returnData := by
  simp only [State.arriveData, ha, ho, if_false]

theorem State.arriveData_fault
    (h : (s.port m).state = .offline ∨ (s.port m).ingress.dataOutstanding = 0) (pkt : DataPacket) :
    s.arriveData m pkt = s.oneMoreFault m := by
  rw [State.oneMoreFault_eq]
  cases hs : (s.port m).state with
  | offline => simp only [State.arriveData, hs]
  | active => simp only [State.arriveData, hs, h.resolve_left (by simp [hs]), if_true]
  | quarantined => simp only [State.arriveData, hs, h.resolve_left (by simp [hs]), if_true]

/-- A packet behind others joins the queue and does nothing else. -/
theorem State.takeData_joins (hq : (s.port m).ingress.dataQueue ≠ []) (pkt : DataPacket) :
    s.takeData m pkt = s.modIngress m fun g =>
      { g with dataQueue := g.dataQueue ++ [pkt], dataOutstanding := g.dataOutstanding - 1 } := by
  have joins : s.takeData m pkt = s.modIngress m fun g => g.takeData pkt := by
    simp [State.takeData, hq]
  rw [joins]
  refine State.modIngress_congr ?_
  simp [Ingress.takeData, hq]

/-- A packet that finds the queue empty is routed as HEAD_ROUTING routes it. -/
theorem State.takeData_heads (hp : s.pwronN = true) (hq : (s.port m).ingress.dataQueue = [])
    (pkt : DataPacket) :
    s.takeData m pkt = State.newHeadRouted
      (s.modIngress m fun g =>
        { g with dataQueue := [pkt], headPhase := .unrouted, headSlot := false,
                 dataOutstanding := g.dataOutstanding - 1 }) m := by
  have heads : s.takeData m pkt = (s.modIngress m fun g => g.takeData pkt).routeNewHead m := by
    simp [State.takeData, hq]
  have taken : (s.modIngress m fun g => g.takeData pkt) = s.modIngress m fun g =>
      { g with dataQueue := [pkt], headPhase := .unrouted, headSlot := false,
               dataOutstanding := g.dataOutstanding - 1 } :=
    State.modIngress_congr (by simp [Ingress.takeData, hq])
  rw [heads, taken]
  refine (State.newHeadRouted_eq (s := s.modIngress m _) hp ?_ ?_).symm <;>
    rw [State.port_modIngress, if_pos rfl]

theorem State.arriveControl_active (ha : (s.port m).state = .active)
    (ho : (s.port m).ingress.controlOutstanding ≠ 0) (pkt : ControlPacket) :
    s.arriveControl m pkt = s.modIngress m fun g => g.takeControl pkt := by
  simp only [State.arriveControl, ha, ho, if_false]

theorem State.arriveControl_quarantined (ha : (s.port m).state = .quarantined)
    (ho : (s.port m).ingress.controlOutstanding ≠ 0) (pkt : ControlPacket) :
    s.arriveControl m pkt = s.modIngress m Ingress.returnControl := by
  simp only [State.arriveControl, ha, ho, if_false]

theorem State.arriveControl_fault
    (h : (s.port m).state = .offline ∨ (s.port m).ingress.controlOutstanding = 0)
    (pkt : ControlPacket) : s.arriveControl m pkt = s.oneMoreFault m := by
  rw [State.oneMoreFault_eq]
  cases hs : (s.port m).state with
  | offline => simp only [State.arriveControl, hs]
  | active => simp only [State.arriveControl, hs, h.resolve_left (by simp [hs]), if_true]
  | quarantined => simp only [State.arriveControl, hs, h.resolve_left (by simp [hs]), if_true]

theorem exec_control {tag : Tag} {op : Byte} {args : List Byte} (hl : args.length ≤ 255)
    (hm : s.HearsMaster m) :
    exec (.control m tag op args) s = .next (s.arriveControl m ⟨tag, op, args⟩) := by
  have arm : exec (.control m tag op args) s = execControl m tag op args s := rfl
  rw [arm, execControl, takePortEvent_on hm, if_pos hl]

end

/-- Settles O6: a packet by its port's state, its credit and, for data, whether it becomes head. -/
theorem requestPacketsByPortState : Obligations.RequestPacketsByPortState := by
  refine ⟨fun c m pkt s hc hm => ?_, fun m tag op args s hl hm => ?_⟩
  · rw [exec_of_dataPacket hc hm]
    refine ⟨fun ha ho hq => ?_, fun ha ho hq => ?_, fun ha ho => ?_, fun h => ?_⟩
    · rw [State.arriveData_active ha (Nat.ne_of_gt ho), State.takeData_joins hq]
    · rw [State.arriveData_active ha (Nat.ne_of_gt ho), State.takeData_heads hm.1 hq]
    · rw [State.arriveData_quarantined ha (Nat.ne_of_gt ho)]; rfl
    · rw [State.arriveData_fault h]
  · rw [exec_control hl hm]
    refine ⟨fun ha ho => ?_, fun ha ho => ?_, fun h => ?_⟩
    · rw [State.arriveControl_active ha (Nat.ne_of_gt ho)]; rfl
    · rw [State.arriveControl_quarantined ha (Nat.ne_of_gt ho)]; rfl
    · rw [State.arriveControl_fault h]

/-! ### Links (R142, R165 to R167, R173, R190) -/

section

variable {s : State} {m : Master} {n : Byte}

theorem exec_credit (h : s.HearsMaster m) (ha : (s.port m).state = .active) (n : Byte) :
    exec (.credit m n) s = .next
      (if (s.port m).resp.inUse < n.toNat then
        State.fault (s.modResp m fun r => { r with credits := r.credits + min n.toNat r.inUse }) m
      else s.modResp m fun r => { r with credits := r.credits + min n.toNat r.inUse }) := by
  have arm : exec (.credit m n) s = execCredit m n s := rfl
  rw [arm, execCredit, takePortEvent_on h, if_pos ha]

end

/-- Settles O7: LINK_UP by the port's state and the count it carries. -/
theorem linkUpOpensThePort : Obligations.LinkUpOpensThePort := by
  intro m n s h
  have arm : exec (.linkUp m n) s = execLinkUp m n s := rfl
  rw [arm, execLinkUp, takePortEvent_on h]
  refine ⟨fun hs h1 h2 => ?_, fun hs hn => ?_, fun hs => ?_, fun hs => ?_⟩
  · simp only [hs, h1, h2, and_self, if_true]
    rfl
  · have out : ¬(1 ≤ n.toNat ∧ n.toNat ≤ 16) := by omega
    simp only [hs, out, if_false, State.oneMoreFault_eq]
  · simp only [hs, State.oneMoreFault_eq]
  · simp only [hs]

/-- Settles O8: returned credits within those in use, and an excess. -/
theorem creditReturnsResponseCredits : Obligations.CreditReturnsResponseCredits := by
  intro m n s h hle
  refine ⟨fun ha hn => ?_, fun ha hn => ?_, fun ha => ?_⟩
  · have within : ¬(s.port m).resp.inUse < n.toNat := Nat.not_lt.mpr hn
    rw [exec_credit h ha, if_neg within]
    refine congrArg _ (State.modResp_congr ?_)
    simp [ResponseUnit.inUse, hn]
  · have excess : (s.port m).resp.inUse < n.toNat := hn
    rw [exec_credit h ha, if_pos excess]
    refine congrArg (fun u : State => Host.Outcome.next (u.fault m)) (State.modResp_congr ?_)
    simp only [ResponseUnit.inUse, ResponseUnit.mk.injEq, and_true, true_and]
    omega
  · have arm : exec (.credit m n) s = execCredit m n s := rfl
    rw [arm, execCredit, takePortEvent_on h, if_neg ha]

/-- Settles O9: the end of a link by the port's state; an ACTIVE port's is its flush to OFFLINE. -/
theorem endOfMasterLink : Obligations.EndOfMasterLink := by
  intro c m s hc h
  have ends : exec c s = .next (s.closePort m) := by
    have reset : exec (.linkReset m) s = execLinkReset m s := rfl
    have lost : exec (.masterLinkLost m) s = execMasterLinkLost m s := rfl
    rcases hc with rfl | rfl
    · rw [reset, execLinkReset, takePortEvent_on h]
    · rw [lost, execMasterLinkLost, takePortEvent_on h]
  rw [ends]
  refine ⟨fun hs => ?_, fun hs => ?_, fun hs hl => ⟨s.flushPort m .offline, ?_, ?_, fun a ha => ?_, ?_, ?_⟩⟩
  · simp only [State.closePort, hs]
  · simp only [State.closePort, hs]
    rfl
  · simp only [State.closePort, hs]
  · rw [State.flushPort_port, if_pos rfl]
    rfl
  · rw [State.flushPort_port, if_neg ha]
  · exact State.flushPort_flushed hl m .offline
  · simp

theorem frameQueue_data {frame : List Byte}
    (h : frame.head? = some 0x01 ∨ frame.head? = some 0x02 ∨ frame.head? = some 0x03) :
    frameQueue frame = .data := by
  rcases h with h | h | h <;> simp [frameQueue, h]

theorem frameQueue_control {frame : List Byte} (h : frame.head? = some 0x04) :
    frameQueue frame = .control := by
  simp [frameQueue, h]

theorem frameQueue_neither {frame : List Byte}
    (h : ¬(frame.head? = some 0x01 ∨ frame.head? = some 0x02 ∨ frame.head? = some 0x03))
    (h' : frame.head? ≠ some 0x04) : frameQueue frame = .neither := by
  unfold frameQueue
  split <;> simp_all

/-- A malformed frame counts a fault and returns a credit of the queue its kind names, if one was
outstanding at a port that is not OFFLINE (R190). -/
theorem State.malformedMaster_eq (s : State) (m : Master) (q : FrameQueue) :
    s.malformedMaster m q = s.modPort m fun p =>
      { p with
        faults := satInc p.faults
        ingress :=
          if q = .data ∧ p.state ≠ .offline ∧ p.ingress.dataOutstanding ≠ 0 then p.ingress.returnData
          else if q = .control ∧ p.state ≠ .offline ∧ p.ingress.controlOutstanding ≠ 0 then
            p.ingress.returnControl
          else p.ingress } := by
  have returned : ∀ f : Ingress → Ingress, (s.fault m).modIngress m f = s.modPort m fun p =>
      { p with faults := satInc p.faults, ingress := f p.ingress } := fun f =>
    s.modPort_modPort m _ _
  have fault : s.fault m = s.modPort m fun p =>
      { p with faults := satInc p.faults, ingress := p.ingress } := rfl
  by_cases hs : (s.port m).state = .offline
  · simp only [State.malformedMaster, hs, if_true]
    rw [fault]
    refine State.modPort_congr ?_
    simp [hs]
  · cases q with
    | data =>
      by_cases ho : (s.port m).ingress.dataOutstanding = 0
      · simp only [State.malformedMaster, hs, ho, if_true, if_false, fault]
        exact State.modPort_congr (by simp [ho])
      · simp only [State.malformedMaster, hs, ho, if_false, returned]
        exact State.modPort_congr (by simp [hs, ho])
    | control =>
      by_cases ho : (s.port m).ingress.controlOutstanding = 0
      · simp only [State.malformedMaster, hs, ho, if_true, if_false, fault]
        exact State.modPort_congr (by simp [ho])
      · simp only [State.malformedMaster, hs, ho, if_false, returned]
        exact State.modPort_congr (by simp [hs, ho])
    | neither =>
      simp only [State.malformedMaster, hs, if_false, fault]
      exact State.modPort_congr (by simp)

/-- Settles O10: the queue is named by the kind code, and the credit and the fault follow. -/
theorem malformedMasterFrameIsCounted : Obligations.MalformedMasterFrameIsCounted := by
  intro m frame s hd h
  have arm : exec (.malformedMasterFrame m frame) s = .next (s.malformedMaster m (frameQueue frame)) := by
    have arm : exec (.malformedMasterFrame m frame) s = execMalformedMasterFrame m frame s := rfl
    rw [arm, execMalformedMasterFrame, takePortEvent_on h, if_pos hd]
  rw [arm, State.malformedMaster_eq]
  refine congrArg _ (State.modPort_congr ?_)
  by_cases hk : frame.head? = some 0x01 ∨ frame.head? = some 0x02 ∨ frame.head? = some 0x03
  · have queue := frameQueue_data hk
    have hc : frame.head? ≠ some 0x04 := by rcases hk with h | h | h <;> simp [h]
    simp only [BitVec.ofNat_eq_ofNat] at hk hc
    simp [queue, hk, hc, satInc, Ingress.returnData, Nat.one_le_iff_ne_zero]
  · by_cases hc : frame.head? = some 0x04
    · have queue := frameQueue_control hc
      simp only [BitVec.ofNat_eq_ofNat] at hk hc
      simp [queue, hc, satInc, Ingress.returnControl, Nat.one_le_iff_ne_zero]
    · have queue := frameQueue_neither hk hc
      simp only [BitVec.ofNat_eq_ofNat] at hk hc
      simp [queue, hk, hc, satInc]

end Sys2Proof.Machine

namespace Sys2Proof.Machine

/-! ### Lookup (R3 to R8, R14 to R16) -/

section

variable {s : State} {m : Master} {q : Request}

theorem State.findWindow_none {a : Address}
    (h : ∀ i, (s.window s.live i).holds a.toNat = false) : s.findWindow a = none :=
  List.find?_eq_none.mpr fun i _ => by simp [h i]

/-- Two enabled windows that hold a byte overlap. -/
theorem Window.overlaps_of_holds {w v : Window} {a : Nat} (hw : w.holds a = true)
    (hv : v.holds a = true) : w.overlaps v = true := by
  obtain ⟨hwe, hw1, hw2⟩ := (Window.holds_iff ..).mp hw
  obtain ⟨hve, hv1, hv2⟩ := (Window.holds_iff ..).mp hv
  have h1 : w.base.toNat < v.base.toNat + 2 ^ v.sizeExp := by omega
  have h2 : v.base.toNat < w.base.toNat + 2 ^ w.sizeExp := by omega
  simp [Window.overlaps, hwe, hve, h1, h2]

/-- Without overlap the window that holds a byte is the one that is found (R13, R14). -/
theorem State.findWindow_some {a : Address} {i : WindowIndex} (hn : NoOverlap s.planes[s.live])
    (h : (s.window s.live i).holds a.toNat = true) : s.findWindow a = some i := by
  refine find?_finRange h fun j hj => ?_
  by_contra hh
  have overlap := Window.overlaps_of_holds (Bool.eq_true_of_not_eq_false hh) h
  rw [State.window, State.window, hn j i (ne_of_lt hj)] at overlap
  cases overlap

theorem Access.admits_iff (a : Access) (isWrite : Bool) :
    a.admits isWrite = true ↔ a = .readWrite ∨ (a = .read ∧ isWrite = false) := by
  cases a <;> cases isWrite <;> simp [Access.admits]

end

/-- Settles O11: a byte that no window holds, and the one window that holds it. -/
theorem lookupByFirstByteLastByteAccess : Obligations.LookupByFirstByteLastByteAccess := by
  intro s m isWrite a len hn hl
  refine ⟨fun h => ?_, fun i he h1 h2 => ⟨s.routingOf i a, ?_, ?_⟩⟩
  · have none : s.findWindow a = none := State.findWindow_none fun i => by
      by_contra hh
      exact h i ((Window.holds_iff ..).mp (Bool.eq_true_of_not_eq_false hh))
    simp only [State.lookup, none]
  · refine ⟨rfl, rfl, rfl, rfl, rfl, rfl, rfl, fun ht => ?_, fun x ht => ?_⟩ <;>
      simp [State.routingOf, Window.translate, ht]
  · have found := State.findWindow_some hn ((Window.holds_iff ..).mpr ⟨he, h1, h2⟩)
    have last : (s.window s.live i).holds (a.toNat + len - 1) = true ↔
        ¬(s.window s.live i).base.toNat + 2 ^ (s.window s.live i).sizeExp < a.toNat + len := by
      rw [Window.holds_iff]
      constructor
      · rintro ⟨_, _, h⟩; omega
      · exact fun h => ⟨he, by omega, by omega⟩
    simp only [State.lookup, found, last, Access.admits_iff, ite_not]

/-! ### Routing and what follows (R54 to R66) -/

section

variable {s : State} {m : Master} {q : Request}

theorem exec_headRouting (h : s.pwronN = true) (m : Master) :
    exec (.headRouting m) s = .next (s.routeUnrouted m) := by
  have arm : exec (.headRouting m) s = execHeadRouting m s := rfl
  rw [arm, execHeadRouting, takeEvent_on h]

theorem State.routeUnrouted_idle
    (h : s.headRequest m = none ∨ (s.port m).ingress.headPhase ≠ .unrouted) : s.routeUnrouted m = s := by
  unfold State.routeUnrouted
  split
  · next q hq hu => exact (h.elim (by simp [hq]) fun hn => absurd hu hn)
  · rfl

theorem State.routeUnrouted_head (hq : s.headRequest m = some q)
    (hu : (s.port m).ingress.headPhase = .unrouted) : s.routeUnrouted m = s.routeHead m q := by
  simp only [State.routeUnrouted, hq, hu]

theorem State.headSlot_setHeadPhase (s : State) (m : Master) (ph : HeadPhase) :
    ((s.setHeadPhase m ph).port m).ingress.headSlot = (s.port m).ingress.headSlot := by
  rw [State.port_setHeadPhase, if_pos rfl]

/-- A head without a slot is routed, and nothing else happens. -/
theorem State.routeHead_noSlot (hs : (s.port m).ingress.headSlot = false) (q : Request) :
    s.routeHead m q = s.setHeadPhase m (s.routePhase m q) := by
  simp only [State.routeHead, State.headSlot_setHeadPhase, hs, Bool.false_eq_true, if_false]

theorem State.routePhase_badLength (h : q.length = 0 ∨ 256 < q.length) :
    s.routePhase m q = .refused .badLength := by
  have out : ¬(1 ≤ q.length ∧ q.length ≤ 256) := by omega
  simp only [State.routePhase, out, not_false_iff, if_true]

theorem State.routePhase_holding (h1 : 1 ≤ q.length) (h2 : q.length ≤ 256)
    (hh : s.planeState.phase = .holding) : s.routePhase m q = .unrouted := by
  simp [State.routePhase, h1, h2, PlaneState.isHolding, hh]

/-- A head that need not wait: its length is in range, and the Plane Controller is not HOLDING (R54). -/
def State.Routable (s : State) (q : Request) : Prop :=
  (1 ≤ q.length ∧ q.length ≤ 256) ∧ s.planeState.isHolding = false

theorem State.routePhase_noWindow (h : s.Routable q)
    (hl : s.lookup m q.isWrite q.addr q.length = .noWindow) :
    s.routePhase m q = .refused .noWindow := by
  simp [State.routePhase, h.1, h.2, hl]

theorem State.routePhase_span {r : Routing} (h : s.Routable q)
    (hl : s.lookup m q.isWrite q.addr q.length = .span r) : s.routePhase m q = .refused .span := by
  simp [State.routePhase, h.1, h.2, hl]

theorem State.routePhase_noAccess {r : Routing} (h : s.Routable q)
    (hl : s.lookup m q.isWrite q.addr q.length = .noAccess r) :
    s.routePhase m q = .refused .noAccess := by
  simp [State.routePhase, h.1, h.2, hl]

theorem State.routePhase_hit {r : Routing} (h : s.Routable q)
    (hl : s.lookup m q.isWrite q.addr q.length = .hit r) : s.routePhase m q =
      if (s.target r.target).state ≠ .up then .refused .targetDown
      else if kindOf q.isWrite r.cls ≠ .writeP ∧ s.tagFree m q.tag = false then .refused .tagInUse
      else .routed r (kindOf q.isWrite r.cls) := by
  simp [State.routePhase, h.1, h.2, hl]

theorem kindOf_posted : kindOf true .posted = .writeP := rfl

theorem kindOf_nonPosted {w : Bool} {c : OrderClass} (h : w = false ∨ c ≠ .posted) :
    kindOf w c = (if w then .writeNp else .read) ∧ kindOf w c ≠ .writeP := by
  cases w <;> cases c <;> simp_all [kindOf]

end

/-- Settles O12: the phase is that of `routePhase`, whose checks are taken one by one. -/
theorem headRoutingChecksInOrder : Obligations.HeadRoutingChecksInOrder := by
  refine ⟨fun m q s hq hu hs => ?_, fun m s hp h => ?_⟩
  · have route : ∀ {ph}, s.routePhase m q = ph →
        exec (.headRouting m) s = .next (s.setHeadPhase m ph) := by
      rintro _ rfl
      rw [exec_headRouting hq.1, State.routeUnrouted_head hq.2 hu, State.routeHead_noSlot hs]
    refine ⟨fun h => route (State.routePhase_badLength h), fun h1 h2 =>
      ⟨fun hh => route (State.routePhase_holding h1 h2 hh), fun hh => ?_⟩⟩
    have able : s.Routable q := ⟨⟨h1, h2⟩, by simp [PlaneState.isHolding, hh]⟩
    refine ⟨fun hl => route (State.routePhase_noWindow able hl),
      fun r hl => route (State.routePhase_span able hl),
      fun r hl => route (State.routePhase_noAccess able hl), fun r hl => ?_⟩
    have phase := State.routePhase_hit able hl
    refine ⟨fun hd => route ?_, fun hup => ⟨fun hw hc => route ?_, fun hk => ⟨fun hi => route ?_,
      fun hf => route ?_⟩⟩⟩
    · rw [phase, if_pos hd]
    · simp [phase, hup, hw, hc, kindOf_posted]
    · have used : s.tagFree m q.tag = false := by
        by_contra hn
        obtain ⟨i, u, hu, hm, ho, hc, ht⟩ := hi
        exact (State.tagFree_iff ..).mp (Bool.eq_true_of_not_eq_false hn) i u hu hm ho hc ht
      simp [phase, hup, (kindOf_nonPosted hk).2, used]
    · have free := (State.tagFree_iff s m q.tag).mpr hf
      simp [phase, hup, free, (kindOf_nonPosted hk).1]
  · rw [exec_headRouting hp, State.routeUnrouted_idle h]

end Sys2Proof.Machine

namespace Sys2Proof.Machine

/-! ### A head with its slot (R57 to R66) -/

section

variable {s : State} {m : Master} {q : Request} {r : Routing} {k : Kind}

theorem State.setHeadPhase_self {ph : HeadPhase} (h : (s.port m).ingress.headPhase = ph) :
    s.setHeadPhase m ph = s := by
  have same : s.setHeadPhase m ph = s.modPort m id := State.modPort_congr
    (f := fun p => { p with ingress := { p.ingress with headPhase := ph } }) (by rw [← h]; rfl)
  rw [same, State.modPort, id, State.setPort_self]

theorem State.setHeadPhase_setHeadPhase (s : State) (m : Master) (a b : HeadPhase) :
    (s.setHeadPhase m a).setHeadPhase m b = s.setHeadPhase m b := by
  simp only [State.setHeadPhase, State.modIngress, State.modPort_modPort]

/-- A head that leaves takes its phase with it. -/
theorem State.dataLeaves_fill_setHeadPhase (s : State) (m : Master) (ph : HeadPhase) (x : Response) :
    ((s.setHeadPhase m ph).fill m .head x).dataLeaves m = (s.fill m .head x).dataLeaves m := by
  have left : ((s.setHeadPhase m ph).fill m .head x).modIngress m Ingress.dataLeaves =
      (s.fill m .head x).modIngress m Ingress.dataLeaves := by
    simp only [State.setHeadPhase, State.fill, State.modIngress, State.modResp, State.modPort_modPort]
    rfl
  rw [State.dataLeaves, left, State.dataLeaves]

theorem State.headRequest_setHeadPhase (s : State) (m : Master) (ph : HeadPhase) :
    (s.setHeadPhase m ph).headRequest m = s.headRequest m := by
  refine State.headRequest_congr ?_ ?_ <;> rw [State.port_setHeadPhase, if_pos rfl]

theorem State.headPhase_setHeadPhase (s : State) (m : Master) (ph : HeadPhase) :
    ((s.setHeadPhase m ph).port m).ingress.headPhase = ph := by
  rw [State.port_setHeadPhase, if_pos rfl]

/-- Routing a head does not read the phase it had. -/
theorem State.routeHead_setHeadPhase (s : State) (m : Master) (ph : HeadPhase) (q : Request) :
    (s.setHeadPhase m ph).routeHead m q = s.routeHead m q := by
  rw [State.routeHead, State.routePhase_setHeadPhase, State.setHeadPhase_setHeadPhase]
  rfl

theorem State.routeHead_refused {st : Status} (hs : (s.port m).ingress.headSlot = true)
    (h : s.routePhase m q = .refused st) :
    s.routeHead m q = (s.fill m .head (q.refusal st)).dataLeaves m := by
  rw [← s.dataLeaves_fill_setHeadPhase m (.refused st)]
  simp only [State.routeHead, State.headSlot_setHeadPhase, hs, if_true, h]

theorem State.routeHead_routed (hs : (s.port m).ingress.headSlot = true)
    (h : s.routePhase m q = .routed r k) :
    s.routeHead m q = (s.setHeadPhase m (.routed r k)).admitOrWait m q r k := by
  simp only [State.routeHead, State.headSlot_setHeadPhase, hs, if_true, h]

theorem State.routeHead_unrouted (h : s.routePhase m q = .unrouted) :
    s.routeHead m q = s.setHeadPhase m .unrouted := by
  simp only [State.routeHead, h]
  split <;> rfl

theorem State.fill_reserved {h : SlotHolder} (hr : h ∈ (s.port m).resp.reserved) (x : Response) :
    s.fill m h x = s.modResp m fun r =>
      { r with reserved := r.reserved.erase h, filled := r.filled ++ [x] } :=
  State.modResp_congr (by rw [ResponseUnit.fill, if_pos hr])

theorem Request.refusal_eq (q : Request) (st : Status) : q.refusal st =
    if q.isWrite then .writeDone q.tag st else .readDone q.tag st [] := rfl

/-- An attempt is made by a routed head that holds its slot (R60). -/
theorem exec_admissionAttempt (h : s.AtHead m q) (hp : (s.port m).ingress.headPhase = .routed r k)
    (hs : (s.port m).ingress.headSlot = true) :
    exec (.admissionAttempt m) s = .next (s.attempt m q r k) := by
  have arm : exec (.admissionAttempt m) s = execAdmissionAttempt m s := rfl
  rw [arm, execAdmissionAttempt, takeEvent_on h.1]
  simp only [h.2, hp, hs, if_true]

theorem State.attempt_current (hg : r.generation = s.generation)
    (hu : (s.target r.target).state = .up) : s.attempt m q r k = s.admitOrWait m q r k := by
  simp [State.attempt, State.routingCurrent, hg, hu]

theorem State.attempt_stale (h : r.generation ≠ s.generation ∨ (s.target r.target).state ≠ .up) :
    s.attempt m q r k = s.routeHead m q := by
  have stale : s.routingCurrent r = false := by
    rcases h with h | h <;> simp [State.routingCurrent, h]
  simp [State.attempt, stale]

end

/-- Settles O13: the head stays, is refused with its slot filled, or makes the attempt of ADMISSION_ATTEMPT. -/
theorem headRoutingWithSlot : Obligations.HeadRoutingWithSlot := by
  intro m q s hq hu hs hr
  rw [exec_headRouting hq.1, State.routeUnrouted_head hq.2 hu]
  refine ⟨fun h => ?_, fun st h => ?_, fun r k h => ?_⟩
  · rw [State.routeHead_unrouted h, State.setHeadPhase_self hu]
  · rw [State.routeHead_refused hs h, State.fill_reserved hr, State.headLeft_eq (s := s.modResp m _) hq.1]
    rfl
  · obtain ⟨_, hg, hup, _⟩ := State.routePhase_routed h
    have head : (s.setHeadPhase m (.routed r k)).AtHead m q :=
      ⟨hq.1, (State.headRequest_setHeadPhase ..).trans hq.2⟩
    rw [exec_admissionAttempt head (State.headPhase_setHeadPhase ..)
      ((State.headSlot_setHeadPhase ..).trans hs), State.routeHead_routed hs h,
      State.attempt_current (s := s.setHeadPhase m (.routed r k)) hg hup]

/-! ### Slots (R136) -/

section

variable {s : State} {m : Master}

theorem exec_slotClaimGrant_full (hp : s.pwronN = true) (hf : (s.port m).resp.hasFree = false) :
    exec (.slotClaimGrant m) s = .next s := by
  have arm : exec (.slotClaimGrant m) s = execSlotClaimGrant m s := rfl
  rw [arm, execSlotClaimGrant, takeEvent_on hp]
  simp [hf]

theorem exec_slotClaimGrant_refused {q : Request} {st : Status} (h : s.AtHead m q)
    (hf : (s.port m).resp.hasFree = true) (hs : (s.port m).ingress.headSlot = false)
    (hph : (s.port m).ingress.headPhase = .refused st) : exec (.slotClaimGrant m) s =
      .next ((s.modResp m fun r => r.fillFree (q.refusal st)).dataLeaves m) := by
  obtain ⟨pkt, hd, hr⟩ := State.headRequest_dataHead h.2
  have arm : exec (.slotClaimGrant m) s = execSlotClaimGrant m s := rfl
  rw [arm, execSlotClaimGrant, takeEvent_on h.1]
  simp [hf, hs, hd, hr, hph]

theorem exec_slotClaimGrant_fence {tag : Tag} (hp : s.pwronN = true)
    (hf : (s.port m).resp.hasFree = true) (hs : (s.port m).ingress.headSlot = false)
    (hd : s.dataHead m = some (.fence tag)) :
    exec (.slotClaimGrant m) s = .next ((s.grantSlot m).takeReadyFence m) := by
  have arm : exec (.slotClaimGrant m) s = execSlotClaimGrant m s := rfl
  rw [arm, execSlotClaimGrant, takeEvent_on hp]
  simp [hf, hs, hd, DataPacket.request?, State.grantSlot]

theorem exec_slotClaimGrant_routed {q : Request} {r : Routing} {k : Kind} (h : s.AtHead m q)
    (hf : (s.port m).resp.hasFree = true) (hs : (s.port m).ingress.headSlot = false)
    (hph : (s.port m).ingress.headPhase = .routed r k) :
    exec (.slotClaimGrant m) s = .next ((s.grantSlot m).attempt m q r k) := by
  obtain ⟨pkt, hd, hr⟩ := State.headRequest_dataHead h.2
  have arm : exec (.slotClaimGrant m) s = execSlotClaimGrant m s := rfl
  rw [arm, execSlotClaimGrant, takeEvent_on h.1]
  simp [hf, hs, hd, hr, hph, State.grantSlot]

theorem exec_fenceTake (hp : s.pwronN = true) (m : Master) :
    exec (.fenceTake m) s = .next (s.takeReadyFence m) := by
  have arm : exec (.fenceTake m) s = execFenceTake m s := rfl
  rw [arm, execFenceTake, takeEvent_on hp]

theorem State.grantSlot_eq (s : State) (m : Master) : s.grantSlot m = s.modPort m fun p =>
    { p with ingress := { p.ingress with headSlot := true },
             resp := { p.resp with reserved := .head :: p.resp.reserved } } := by
  simp only [State.grantSlot, State.modIngress, State.modResp, State.modPort_modPort]
  rfl

theorem State.port_grantSlot (s : State) (m : Master) : (s.grantSlot m).port m =
    { s.port m with ingress := { (s.port m).ingress with headSlot := true },
                    resp := (s.port m).resp.reserve .head } := by
  rw [State.grantSlot_eq, State.port_modPort, if_pos rfl]
  rfl

end

/-- Settles O14: a claim by the completion queue's room and what stands at the head. -/
theorem slotClaimGrant : Obligations.SlotClaimGrant := by
  intro m s hp
  refine ⟨fun hf => exec_slotClaimGrant_full hp ((ResponseUnit.hasFree_eq_false _).mpr hf),
    fun hf hs => ?_⟩
  have free : (s.port m).resp.hasFree = true := by
    by_contra hn
    exact absurd ((ResponseUnit.hasFree_eq_false _).mp (Bool.eq_false_of_not_eq_true hn)) (by omega)
  refine ⟨fun q st hq hph => ?_, fun tag hd => ?_, fun q r k hq hph => ?_⟩
  · rw [exec_slotClaimGrant_refused ⟨hp, hq⟩ free hs hph,
      State.headLeft_eq (s := s.modResp m _) hp]
    rfl
  · rw [exec_slotClaimGrant_fence hp free hs hd, ← State.grantSlot_eq,
      exec_fenceTake (s := s.grantSlot m) hp]
  · have head : (s.grantSlot m).AtHead m q :=
      ⟨hp, (State.headRequest_congr (by rw [State.port_grantSlot]) (by rw [State.port_grantSlot])).trans hq⟩
    rw [exec_slotClaimGrant_routed ⟨hp, hq⟩ free hs hph, ← State.grantSlot_eq,
      exec_admissionAttempt head (by rw [State.port_grantSlot]; exact hph) (by rw [State.port_grantSlot])]

/-! ### Admission (R59 to R67) -/

section

variable {s : State} {m : Master} {q : Request} {r : Routing} {k : Kind} {i : OrtIndex}

theorem State.not_isHolding (h : s.planeState.phase ≠ .holding) : s.planeState.isHolding = false := by
  simp [PlaneState.isHolding, h]

theorem State.admitOrWait_admits (hh : s.planeState.isHolding = false) (hi : s.freeIndex = some i)
    (hr : s.hasRoom m q r = true) : s.admitOrWait m q r k = s.admitHead m q r k i := by
  simp [State.admitOrWait, hh, hi, hr]

theorem State.admitOrWait_waits
    (h : s.planeState.isHolding = true ∨ s.freeIndex = none ∨ s.hasRoom m q r = false) :
    s.admitOrWait m q r k = s := by
  unfold State.admitOrWait
  rcases h with h | h | h
  · rw [if_pos h]
  · split
    · rfl
    · simp only [h]
  · split
    · rfl
    · split
      · rfl
      · rw [if_neg (by simp [h])]

theorem State.freeIndex_none (h : ∀ i, (s.entry i).use ≠ none) : s.freeIndex = none :=
  List.find?_eq_none.mpr fun i _ => by simpa using h i

theorem ResponseUnit.admitHead_reserved {x : ResponseUnit} (h : .head ∈ x.reserved) (i : OrtIndex)
    (q : Request) (k : Kind) : x.admitHead i q k =
      if k = .writeP then
        { x with reserved := x.reserved.erase .head, filled := x.filled ++ [.writeAck q.tag] }
      else { x with reserved := .ort i :: x.reserved.erase .head } := by
  rw [ResponseUnit.admitHead, ResponseUnit.fill, ResponseUnit.pass, if_pos h, if_pos h]

end

/-- Settles O15: with the conditions of R59 met the attempt is the admission, written out. -/
theorem admissionCreatesTheEntry : Obligations.AdmissionCreatesTheEntry := by
  intro m q r k i s hq hph hs hr hg hh hup hi hlt hquota hlane hblocks
  have room : s.hasRoom m q r = true := by
    have blocks : q.blocks ≤ s.freeBlocks := hblocks
    simpa [State.hasRoom, hlane, blocks] using hquota
  have resp := ResponseUnit.admitHead_reserved hr i q k
  have before : ((s.admitted m q r k i).modResp m fun x => x.admitHead i q k) =
      (s.admitted m q r k i).setPort m
        { s.port m with resp := (s.port m).resp.admitHead i q k } := rfl
  rw [exec_admissionAttempt hq hph hs, State.attempt_current hg hup,
    State.admitOrWait_admits (State.not_isHolding hh) (State.freeIndex_eq_some hi hlt) room,
    State.admitHead_eq, before, resp]
  exact congrArg _ (State.headLeft_eq (s := (s.admitted m q r k i).setPort m _) hq.1 m).symm

/-- Settles O16: what an attempt finds, in the order of R61, and what an announcement finds at the head. -/
theorem attemptWaitsOrIsReroutedInOrder : Obligations.AttemptWaitsOrIsReroutedInOrder := by
  refine ⟨fun m q r k s hq hph hs => ⟨fun h => ?_, fun hg hup h => ?_⟩, fun m t s hp => ?_⟩
  · rw [exec_admissionAttempt hq hph hs, State.attempt_stale h,
      exec_headRouting (s := s.setHeadPhase m .unrouted) hq.1,
      State.routeUnrouted_head ((State.headRequest_setHeadPhase ..).trans hq.2)
        (State.headPhase_setHeadPhase ..), State.routeHead_setHeadPhase]
  · rw [exec_admissionAttempt hq hph hs, State.attempt_current hg hup, State.admitOrWait_waits]
    rcases h with h | h | h
    · exact .inl (by simp [PlaneState.isHolding, h])
    · exact .inr (.inl (State.freeIndex_none h))
    · refine .inr (.inr ?_)
      have short : ¬(s.held[m] < (s.limits m).quota ∧ q.blocks ≤ s.freeBlocks ∧
          (s.lane r.target m).length < 16) := by
        have blocks : q.blocks = if q.isWrite then (q.length + 63) / 64 else 0 := rfl
        omega
      simpa [State.hasRoom, and_assoc] using short
  · have arm : exec (.targetDownAnnouncement m t) s = execTargetDownAnnouncement m t s := rfl
    rw [arm, execTargetDownAnnouncement, takeEvent_on hp]
    refine ⟨fun h0 => by rw [if_pos h0], fun h0 hn => ?_, fun q r k h0 hq hph ht => ?_⟩
    · rw [if_neg (Nat.ne_of_gt h0)]
      dsimp only
      split
      · next q r k hq hph => rw [if_neg (hn q r k hq hph)]; rfl
      · rfl
    · rw [if_neg (Nat.ne_of_gt h0)]
      have head : (s.setAnnouncement m t (s.announcements[m][t] - 1)).headRequest m = some q := hq
      have phase : ((s.setAnnouncement m t (s.announcements[m][t] - 1)).port m).ingress.headPhase =
          .routed r k := hph
      simp only [head, phase, ht, if_true]
      change _ = exec (.headRouting m)
        ((s.setAnnouncement m t (s.announcements[m][t] - 1)).setHeadPhase m .unrouted)
      rw [exec_headRouting
          (s := (s.setAnnouncement m t (s.announcements[m][t] - 1)).setHeadPhase m .unrouted) hp,
        State.routeUnrouted_head ((State.headRequest_setHeadPhase ..).trans head)
          (State.headPhase_setHeadPhase ..), State.routeHead_setHeadPhase]

end Sys2Proof.Machine

namespace Sys2Proof.Machine

/-! ### Fences (R68, R153 to R156) -/

section

variable {s : State} {m : Master} {tag : Tag}

theorem State.takeReadyFence_occupied (h : (s.port m).fence.slot ≠ none) : s.takeReadyFence m = s := by
  unfold State.takeReadyFence
  split
  · next _ hn => exact absurd hn h
  · rfl

theorem State.takeReadyFence_ready (hd : s.dataHead m = some (.fence tag))
    (hs : (s.port m).ingress.headSlot = true) (hn : (s.port m).fence.slot = none) :
    s.takeReadyFence m = s.takeFence m tag := by
  have ready : s.fenceHeadReady m = some tag := State.fenceHeadReady_eq_some.mpr ⟨hd, hs⟩
  simp only [State.takeReadyFence, ready, hn]

theorem State.mem_fenceSet {i : OrtIndex} : i ∈ s.fenceSet m ↔
    ∃ u, (s.entry i).use = some u ∧ u.master = m ∧ u.kind = .writeP ∧ u.phase.counted = true ∧
      u.failureReporting = true := by
  simp only [State.fenceSet, List.mem_filter, ortIndices, List.mem_finRange, true_and]
  cases h : (s.entry i).use with
  | none => simp
  | some u => simp [and_assoc]

theorem State.fenceSet_nodup (s : State) (m : Master) : (s.fenceSet m).Nodup :=
  (List.nodup_finRange 64).filter _

/-- The fence passes on the head's slot, or fills it at once (R153, R156). -/
theorem State.takeFence_of_slot (hr : .head ∈ (s.port m).resp.reserved) :
    s.takeFence m tag = State.dataLeaves (s.modPort m fun p =>
      { p with
        resp :=
          if s.fenceSet m = [] then
            { p.resp with
              reserved := p.resp.reserved.erase .head
              filled := p.resp.filled ++ [.fenceDone tag p.fence.postedFailures] }
          else { p.resp with reserved := .fence :: p.resp.reserved.erase .head }
        fence :=
          if s.fenceSet m = [] then { slot := none, postedFailures := 0 }
          else { slot := some { members := s.fenceSet m, failures := p.fence.postedFailures, tag := tag },
                 postedFailures := 0 } }) m := by
  by_cases h : s.fenceSet m = []
  · have e : (s.fenceSet m).isEmpty = true := List.isEmpty_iff.mpr h
    simp only [State.takeFence, e, if_true, State.finishFence, State.fill, State.modResp, State.setFence,
      State.modPort_modPort]
    refine congrArg (State.dataLeaves · m) (State.modPort_congr ?_)
    simp [ResponseUnit.pass, ResponseUnit.fill, hr, h]
  · have e : (s.fenceSet m).isEmpty = false := List.isEmpty_eq_false_iff.mpr h
    simp only [State.takeFence, e, Bool.false_eq_true, if_false, State.modResp, State.setFence,
      State.modPort_modPort]
    refine congrArg (State.dataLeaves · m) (State.modPort_congr ?_)
    simp [ResponseUnit.pass, hr, h]

end

/-- Settles O17: with the fence slot OCCUPIED the FENCE waits; with it EMPTY its set is that of R153. -/
theorem fenceTake : Obligations.FenceTake := by
  intro m tag s hp hd hs hr
  refine ⟨fun h => ?_, fun h => ⟨s.fenceSet m, s.fenceSet_nodup m, fun i => State.mem_fenceSet, ?_⟩⟩
  · rw [exec_fenceTake hp, State.takeReadyFence_occupied h]
  · rw [exec_fenceTake hp, State.takeReadyFence_ready hd hs h, State.takeFence_of_slot hr,
      State.headLeft_eq (s := s.modPort m _) hp]

/-- Settles O40: a report by what the fence covers, and the last report of a fence. -/
theorem fenceTrackerTakesReports : Obligations.FenceTrackerTakesReports := by
  intro m i failed s hp
  refine ⟨fun h => ?_, fun f hf hi => ⟨fun hn => ?_, fun he hr => ?_⟩⟩
  · rw [State.fenceReport_outside h]
    rfl
  · have more : (f.members.erase i).isEmpty = false := List.isEmpty_eq_false_iff.mpr hn
    rw [State.fenceReport_member hf hi]
    simp only [more, Bool.false_eq_true, if_false]
    rfl
  · have done : (f.members.erase i).isEmpty = true := List.isEmpty_iff.mpr he
    rw [State.fenceReport_member hf hi, exec_fenceTake (s := s.modPort m _) hp]
    simp only [done, if_true, State.completeFence, State.finishFence, State.fill, State.modResp,
      State.setFence, State.modPort_modPort]
    refine congrArg (fun u : State => Host.Outcome.next (u.takeReadyFence m)) (State.modPort_congr ?_)
    simp [ResponseUnit.fill, hr, Fence.reported, countIf, satInc]

/-! ### The take of a control head (R69, R178) -/

section

variable {s : State}

theorem cycleFrom_eq (p : Master) : cycleFrom p = (List.finRange 4).map fun d => p + d := by
  revert p
  decide

/-- The first of the masters in cyclic order that satisfies `f`. -/
theorem find?_cycleFrom {p : Master} {f : Master → Bool} {d : Fin 4} (h : f (p + d) = true)
    (hlt : ∀ e : Fin 4, e < d → f (p + e) = false) : (cycleFrom p).find? f = some (p + d) := by
  rw [cycleFrom_eq, List.find?_map, find?_finRange (p := f ∘ fun d => p + d) h hlt]
  rfl

theorem exec_controlTake_idle (hp : s.pwronN = true)
    (h : s.control.op ≠ none ∨ (cycleFrom s.control.pointer).find? s.controlEligible = none) :
    exec .controlTake s = .next s := by
  have arm : exec .controlTake s = execControlTake s := rfl
  rw [arm, execControlTake, takeEvent_on hp]
  dsimp only
  split
  · next hop hf => exact (h.elim (absurd hop) fun hn => by rw [hn] at hf; cases hf)
  · rfl

theorem exec_controlTake_takes {m : Master} {pkt : ControlPacket} (hp : s.pwronN = true)
    (ho : s.control.op = none) (hm : (cycleFrom s.control.pointer).find? s.controlEligible = some m)
    (hk : s.controlHead m = some pkt) : exec .controlTake s = .next (s.takeOperation m pkt) := by
  have arm : exec .controlTake s = execControlTake s := rfl
  rw [arm, execControlTake, takeEvent_on hp]
  simp only [ho, hm, hk]
  rfl

/-- The take makes the credit owed, reserves the slot and holds the operation record (R69, R178). -/
theorem State.takeOperation_eq (s : State) (m : Master) (pkt : ControlPacket) :
    s.takeOperation m pkt =
      { s.modPort m (fun p =>
          { p with
            ingress := { p.ingress with controlQueue := p.ingress.controlQueue.tail,
                                        controlOwed := p.ingress.controlOwed + 1 }
            resp := { p.resp with reserved := .control :: p.resp.reserved } }) with
        control := { s.control with op := some ⟨m, pkt.tag, pkt.op, pkt.args⟩, pointer := m + 1 } } := by
  simp only [State.takeOperation, State.modIngress, State.modResp, State.modPort_modPort]
  rfl

theorem State.controlEligible_eq_true {m : Master} {pkt : ControlPacket}
    (h : s.controlHead m = some pkt)
    (hf : (s.port m).resp.reserved.length + (s.port m).resp.filled.length < 16) :
    s.controlEligible m = true := by
  by_contra hn
  rcases (s.controlEligible_eq_false m).mp (Bool.eq_false_of_not_eq_true hn) with h' | h'
  · rw [h] at h'; cases h'
  · omega

end

/-- Settles O18: the take finds the first eligible master from the pointer on, or none. -/
theorem controlTakeByRotation : Obligations.ControlTakeByRotation := by
  intro s hp
  refine ⟨fun ho => exec_controlTake_idle hp (.inl ho), fun hn => ?_, fun d pkt ho hk hf hlt => ?_⟩
  · refine exec_controlTake_idle hp (.inr (List.find?_eq_none.mpr fun m _ => ?_))
    rw [(s.controlEligible_eq_false m).mpr (hn m)]
    simp
  · have found := find?_cycleFrom (State.controlEligible_eq_true hk hf) fun e he =>
      (s.controlEligible_eq_false _).mpr (hlt e he)
    rw [exec_controlTake_takes hp ho found hk, State.takeOperation_eq]

end Sys2Proof.Machine

namespace Sys2Proof.Machine

/-! ### What an operation leaves of the Control Unit's slots until it ends -/

/-- Whether a response is CONTROL_DONE. -/
def Response.isControlDone : Response → Bool
  | .controlDone _ _ _ _ => true
  | _ => false

/-- The slot of the operation in execution stays as it is, and no CONTROL_DONE is added. -/
structure ResponseUnit.KeepsControl (r x : ResponseUnit) : Prop where
  slot : .control ∈ x.reserved ↔ .control ∈ r.reserved
  done : ∀ y ∈ x.filled, y.isControlDone = true → y ∈ r.filled

/-- The same at every port, with the Control Unit's pointer. -/
structure State.KeepsControl (s t : State) : Prop where
  pointer : t.control.pointer = s.control.pointer
  ports : ∀ m, (s.port m).resp.KeepsControl (t.port m).resp

namespace ResponseUnit.KeepsControl

variable {r x y : ResponseUnit}

theorem of_same (h : x.reserved = r.reserved ∧ x.filled = r.filled) : r.KeepsControl x :=
  ⟨by rw [h.1], fun _ hy _ => h.2 ▸ hy⟩

theorem trans (h : r.KeepsControl x) (k : x.KeepsControl y) : r.KeepsControl y :=
  ⟨k.slot.trans h.slot, fun z hz hc => h.done z (k.done z hz hc) hc⟩

theorem filled_append {z : Response} (hz : z.isControlDone = false) :
    ∀ w ∈ r.filled ++ [z], w.isControlDone = true → w ∈ r.filled := by
  intro w hw hc
  rcases List.mem_append.mp hw with h | h
  · exact h
  · rw [List.mem_singleton.mp h, hz] at hc
    cases hc

theorem fill {h : SlotHolder} {z : Response} (hn : h ≠ .control) (hz : z.isControlDone = false) :
    r.KeepsControl (r.fill h z) := by
  unfold ResponseUnit.fill
  split
  · exact ⟨List.mem_erase_of_ne hn.symm, filled_append hz⟩
  · exact of_same ⟨rfl, rfl⟩

theorem pass {a b : SlotHolder} (ha : a ≠ .control) (hb : b ≠ .control) :
    r.KeepsControl (r.pass a b) := by
  unfold ResponseUnit.pass
  split
  · refine ⟨?_, fun _ hy _ => hy⟩
    simp [hb.symm, List.mem_erase_of_ne ha.symm]
  · exact of_same ⟨rfl, rfl⟩

theorem admitHead (i : OrtIndex) (q : Request) (k : Kind) : r.KeepsControl (r.admitHead i q k) := by
  unfold ResponseUnit.admitHead
  split
  · exact fill (by simp) rfl
  · exact pass (by simp) (by simp)

end ResponseUnit.KeepsControl

namespace State.KeepsControl

variable {s t u : State} {m : Master}

theorem refl (s : State) : s.KeepsControl s := ⟨rfl, fun _ => .of_same ⟨rfl, rfl⟩⟩

theorem trans (h : s.KeepsControl t) (k : t.KeepsControl u) : s.KeepsControl u :=
  ⟨k.pointer.trans h.pointer, fun m => (h.ports m).trans (k.ports m)⟩

theorem ite {c : Prop} [Decidable c] {f g : State} (hf : s.KeepsControl f) (hg : s.KeepsControl g) :
    s.KeepsControl (if c then f else g) := by
  split
  · exact hf
  · exact hg

theorem foldl {β : Type} {f : State → β → State} (h : ∀ s b, State.KeepsControl s (f s b)) (l : List β)
    (s : State) : State.KeepsControl s (l.foldl f s) := by
  induction l generalizing s with
  | nil => exact refl s
  | cons b l ih => exact (h s b).trans (ih _)

theorem of_same (hc : t.control.pointer = s.control.pointer) (hm : t.masters = s.masters) :
    s.KeepsControl t :=
  ⟨hc, fun m => .of_same (by rw [State.port_congr hm]; exact ⟨rfl, rfl⟩)⟩

theorem modResp {f : ResponseUnit → ResponseUnit} (h : (s.port m).resp.KeepsControl (f (s.port m).resp)) :
    s.KeepsControl (s.modResp m f) := by
  refine ⟨by simp, fun a => ?_⟩
  rw [State.port_modResp]
  split
  · next e => subst e; exact h
  · exact .of_same ⟨rfl, rfl⟩

theorem modIngress (s : State) (m : Master) (f : Ingress → Ingress) :
    s.KeepsControl (s.modIngress m f) := by
  refine ⟨by simp, fun a => ?_⟩
  rw [State.port_modIngress]
  split
  · next e => subst e; exact .of_same ⟨rfl, rfl⟩
  · exact .of_same ⟨rfl, rfl⟩

theorem setFence (s : State) (m : Master) (f : FenceTracker) : s.KeepsControl (s.setFence m f) := by
  refine ⟨by simp, fun a => ?_⟩
  rw [State.port_setFence]
  split
  · next e => subst e; exact .of_same ⟨rfl, rfl⟩
  · exact .of_same ⟨rfl, rfl⟩

theorem notice (p : MasterPort) (n : Notice) : p.resp.KeepsControl (p.notify n).resp := by
  rw [MasterPort.notify_resp]
  split
  · exact .of_same ⟨rfl, rfl⟩
  · exact .of_same ⟨rfl, rfl⟩

theorem notifyAll (s : State) (who : Master → Bool) (n : Notice) :
    s.KeepsControl (s.notifyAll who n) := by
  refine ⟨by simp, fun a => ?_⟩
  rw [State.port_notifyAll]
  split
  · exact notice _ n
  · exact .of_same ⟨rfl, rfl⟩

theorem notify (s : State) (m : Master) (n : Notice) : s.KeepsControl (s.notify m n) := by
  refine ⟨by simp, fun a => ?_⟩
  rw [State.notify, State.port_modPort]
  split
  · next e => subst e; exact notice _ n
  · exact .of_same ⟨rfl, rfl⟩

theorem fill (s : State) (m : Master) {h : SlotHolder} {x : Response} (hn : h ≠ .control)
    (hx : x.isControlDone = false) : s.KeepsControl (s.fill m h x) := modResp (.fill hn hx)

theorem dataLeaves (s : State) (m : Master) : s.KeepsControl (s.dataLeaves m) := by
  refine (modIngress s m Ingress.dataLeaves).trans ?_
  rcases State.routeNewHead_cases (s.modIngress m Ingress.dataLeaves) m with ⟨_, e⟩ | ⟨q, _, e⟩
  · rw [State.dataLeaves, e]; exact refl _
  · rw [State.dataLeaves, e]; exact modIngress _ _ _

/-! ### Fences and entries -/

theorem finishFence (s : State) (m : Master) (f : Fence) : s.KeepsControl (s.finishFence m f) :=
  (fill s m (by simp) rfl).trans (setFence _ _ _)

theorem takeReadyFence (s : State) (m : Master) : s.KeepsControl (s.takeReadyFence m) := by
  unfold State.takeReadyFence
  split
  · refine trans ?_ (dataLeaves _ m)
    have taken : ∀ f, s.KeepsControl ((s.modResp m fun r => r.pass .head .fence).setFence m f) :=
      fun f => (modResp (.pass (by simp) (by simp))).trans (setFence _ _ f)
    exact ite ((taken _).trans (finishFence _ _ _)) (taken _)
  · exact refl s

theorem fenceReport (s : State) (m : Master) (i : OrtIndex) (failed : Bool) :
    s.KeepsControl (s.fenceReport m i failed) := by
  by_cases h : ∃ f, (s.port m).fence.slot = some f ∧ i ∈ f.members
  · obtain ⟨f, hs, hi⟩ := h
    rw [State.fenceReport_member hs hi]
    exact ite ((setFence s m _).trans ((finishFence _ _ _).trans (takeReadyFence _ _))) (setFence s m _)
  · rw [State.fenceReport_outside fun f hs hi => h ⟨f, hs, hi⟩]
    exact setFence s m _

theorem reportFailure (s : State) (i : OrtIndex) (u : OrtUse) (st : Status) :
    s.KeepsControl (s.reportFailure i u st) := by
  refine ite (ite ((notify s _ _).trans (fenceReport _ _ _ _)) (refl s)) (ite ?_ (refl s))
  unfold State.respond
  split
  · exact fill s _ (by simp) rfl
  · exact fill s _ (by simp) rfl

theorem loseEntry (t : Target) (s : State) (i : OrtIndex) :
    s.KeepsControl (State.loseEntry t s i) := by
  unfold State.loseEntry
  split
  · exact refl s
  · next u _ =>
    refine ite (ite ?_ (of_same (by simp) rfl)) (refl s)
    exact (of_same (by simp) (by simp) : s.KeepsControl (s.retire i u)).trans
      (reportFailure _ i u .targetLost)

theorem leaveUp (s : State) (t : Target) (c : DownCause) : s.KeepsControl (s.leaveUp t c) := by
  have down : s.KeepsControl (s.portDown t) := of_same rfl rfl
  have told : (s.portDown t).KeepsControl ((s.portDown t).notifyDown t c .up) := notifyAll _ _ _
  have lost : s.KeepsControl (((s.portDown t).notifyDown t c .up).loseTarget t) :=
    (down.trans told).trans (foldl (loseEntry t) ortIndices _)
  exact lost.trans (of_same (congrArg ControlUnit.pointer (State.announce_control _ t))
    (State.announce_masters _ t))

/-! ### Heads -/

theorem admitHead (s : State) (m : Master) (q : Request) (r : Routing) (k : Kind) (i : OrtIndex) :
    s.KeepsControl (s.admitHead m q r k i) := by
  have admitted : s.KeepsControl (s.admitted m q r k i) := of_same rfl rfl
  rw [State.admitHead_eq]
  exact (admitted.trans (modResp (.admitHead i q k))).trans (dataLeaves _ m)

theorem routeHead (s : State) (m : Master) (q : Request) : s.KeepsControl (s.routeHead m q) := by
  have routed : s.KeepsControl (s.setHeadPhase m (s.routePhase m q)) := modIngress s m _
  refine ite ?_ routed
  cases s.routePhase m q with
  | unrouted => exact modIngress s m _
  | refused st =>
    refine ((modIngress s m _).trans (fill _ m (by simp) ?_)).trans (dataLeaves _ m)
    rw [Request.refusal_eq]
    split <;> rfl
  | routed r k =>
    refine (modIngress s m fun g => { g with headPhase := .routed r k }).trans (ite (refl _) ?_)
    split
    · exact refl _
    · exact ite (admitHead _ m q r k _) (refl _)

theorem resumeHeads (s : State) : s.KeepsControl s.resumeHeads := by
  refine State.resumeHeads_keeps (fun t => s.KeepsControl t)
    (fun t n h => h.trans (of_same rfl rfl)) (fun t m h => h.trans ?_) s (refl s)
  unfold State.routeUnrouted
  split
  · exact routeHead t m _
  · exact refl t

/-! ### The Plane Controller -/

theorem reconcile (s : State) : s.KeepsControl s.reconcile :=
  (of_same rfl rfl : s.KeepsControl { s.copyLive with planeState := .steady }).trans (notifyAll _ _ _)

theorem flip (s : State) : s.KeepsControl s.flip :=
  (of_same rfl rfl : s.KeepsControl { s with generation := s.generation + 1 }).trans (notifyAll _ _ _)

theorem completeSwitch (s : State) : s.KeepsControl s.completeSwitch := (flip s).trans (reconcile _)

theorem immediateSwitch (s : State) : s.KeepsControl s.immediateSwitch :=
  ite (completeSwitch s) ((flip s).trans (of_same rfl rfl))

theorem quiescedSwitch (s : State) (h : Master) (limit : Nat) :
    s.KeepsControl (s.quiescedSwitch h limit) := ite (completeSwitch s) (of_same rfl rfl)

theorem backToEditing (s : State) (h : Master) : s.KeepsControl (s.backToEditing h) :=
  (of_same rfl rfl : s.KeepsControl { s with planeState := .editing h s.leaseTimer }).trans
    (resumeHeads _)

theorem renewLease (s : State) (op : Operation) : s.KeepsControl (s.renewLease op) := by
  unfold State.renewLease
  split
  · exact ite (of_same rfl rfl) (refl s)
  · exact refl s

theorem exitQuarantine (s : State) (m : Master) : s.KeepsControl (s.exitQuarantine m) := by
  refine ⟨by simp, fun a => ?_⟩
  rw [State.exitQuarantine, State.port_modPort]
  split
  · next e => subst e; exact .of_same ⟨rfl, rfl⟩
  · exact .of_same ⟨rfl, rfl⟩

end State.KeepsControl
end Sys2Proof.Machine

namespace Sys2Proof.Machine

/-! ### The end of an operation (R137, R179 to R181) -/

/-- An operation has ended, after what its own rule did. -/
def State.EndsWith (s : State) (op : Operation) (t : State) : Prop :=
  ∃ u code record, s.KeepsControl u ∧ t = u.finish op code record

namespace State.EndsWith

variable {s t u : State} {op : Operation}

theorem of_finish (s : State) (op : Operation) (code : ResultCode) (record : ResultRecord) :
    s.EndsWith op (s.finish op code record) := ⟨s, code, record, .refl s, rfl⟩

theorem of_keeps (h : s.KeepsControl u) (k : u.EndsWith op t) : s.EndsWith op t := by
  obtain ⟨v, code, record, hv, e⟩ := k
  exact ⟨v, code, record, h.trans hv, e⟩

theorem after (h : s.KeepsControl u) (code : ResultCode) (record : ResultRecord) :
    s.EndsWith op (u.finish op code record) := of_keeps h (of_finish ..)

theorem ite {c : Prop} [Decidable c] {f g : State} (hf : s.EndsWith op f) (hg : s.EndsWith op g) :
    s.EndsWith op (if c then f else g) := by
  split
  · exact hf
  · exact hg

theorem of_carryOut {e : Entry} {na : State → ResultRecord} {of own : Operation → State → State}
    (hp : s.pwronN = true) (ho : s.control.op = some op) (hc : op.code = e.code)
    (hof : s.KeepsControl (of op s)) (hown : s.EndsWith op (own op s)) :
    ∃ t, carryOut e na of own s = .next t ∧ s.EndsWith op t := by
  refine ⟨_, by rw [carryOut, takeEvent_on hp], ?_⟩
  simp only [ho, hc, ne_eq, not_true, if_false]
  exact ite (of_finish ..) (ite (after hof ..) hown)

/-- CONTROL_DONE is the youngest response if the slot is still RESERVED, and dropped otherwise (R137). -/
theorem controlDone (h : s.EndsWith op t) : ∃ code record, t.control.op = none ∧
    t.control.pointer = s.control.pointer ∧
    (.control ∈ (s.port op.requester).resp.reserved →
      (t.port op.requester).resp.filled.getLast? = some (.controlDone op.tag op.code code record)) ∧
    (.control ∉ (s.port op.requester).resp.reserved → ∀ tag x code' record',
      .controlDone tag x code' record' ∈ (t.port op.requester).resp.filled →
      .controlDone tag x code' record' ∈ (s.port op.requester).resp.filled) := by
  obtain ⟨u, code, record, hu, rfl⟩ := h
  have port := hu.ports op.requester
  have resp : ((u.finish op code record).port op.requester).resp =
      (u.port op.requester).resp.fill .control (.controlDone op.tag op.code code record) := by
    have e : (u.finish op code record).port op.requester =
        (u.fill op.requester .control (.controlDone op.tag op.code code record)).port op.requester := rfl
    rw [e, State.fill, State.port_modResp, if_pos rfl]
  refine ⟨code, record, rfl, hu.pointer, fun hr => ?_, fun hr tag x code' record' hd => ?_⟩
  · rw [resp, ResponseUnit.fill, if_pos (port.slot.mpr hr)]
    simp
  · rw [resp, ResponseUnit.fill, if_neg (fun hn => hr (port.slot.mp hn))] at hd
    exact port.done _ hd rfl

/-! ### Each operation -/

theorem asEditor {own : State → State} (h : s.EndsWith op (own s)) : s.EndsWith op (s.asEditor op own) := by
  unfold State.asEditor
  split
  · exact ite h (of_finish ..)
  · exact ite (of_finish ..) (of_finish ..)
  · exact of_finish ..
  · exact of_finish ..

theorem switchBy (s : State) (op : Operation) : s.EndsWith op (s.switchBy op) := by
  have renewed := State.KeepsControl.renewLease s op
  unfold State.switchBy
  split
  · exact after renewed ..
  · next mode _ =>
    refine ite (after renewed ..) ?_
    split
    · exact after renewed ..
    · cases mode with
      | immediate => exact after (.immediateSwitch s) ..
      | quiesced => exact after (.quiescedSwitch s _ _) ..

theorem grantClaim (s : State) (op : Operation) : s.EndsWith op (s.grantClaim op) :=
  after (s := s) (op := op) (u := { s with planeState := .editing op.requester s.leaseTimer })
    (.of_same rfl rfl) .ok _

/-- A command of the catalogue whose operation is in execution ends it. -/
theorem exec (c : Instr) (hp : s.pwronN = true) (ho : s.control.op = some op)
    (hc : c.operationCode? = some op.code) : ∃ t, Machine.exec c s = .next t ∧ s.EndsWith op t := by
  have code : ∀ {k : Byte}, some k = some op.code → op.code = k := fun h => (Option.some.inj h).symm
  have kept := State.KeepsControl.refl s
  have renewed := State.KeepsControl.renewLease s op
  cases c with
  | getWindow =>
    show ∃ t, execGetWindow s = .next t ∧ s.EndsWith op t
    refine of_carryOut hp ho (code hc) kept ?_
    split <;> exact of_finish ..
  | probe =>
    show ∃ t, execProbe s = .next t ∧ s.EndsWith op t
    refine of_carryOut hp ho (code hc) kept ?_
    split <;> exact of_finish ..
  | getPlaneStatus =>
    show ∃ t, execGetPlaneStatus s = .next t ∧ s.EndsWith op t
    exact of_carryOut hp ho (code hc) kept (of_finish ..)
  | getMasterStatus =>
    show ∃ t, execGetMasterStatus s = .next t ∧ s.EndsWith op t
    refine of_carryOut hp ho (code hc) kept ?_
    split <;> exact of_finish ..
  | getTargetStatus =>
    show ∃ t, execGetTargetStatus s = .next t ∧ s.EndsWith op t
    refine of_carryOut hp ho (code hc) kept ?_
    split <;> exact of_finish ..
  | getSettings =>
    show ∃ t, execGetSettings s = .next t ∧ s.EndsWith op t
    exact of_carryOut hp ho (code hc) kept (of_finish ..)
  | claimEdit =>
    show ∃ t, execClaimEdit s = .next t ∧ s.EndsWith op t
    refine of_carryOut hp ho (code hc) kept ?_
    split
    · exact grantClaim s op
    · exact ite (grantClaim s op) (of_finish ..)
    · exact of_finish ..
    · exact of_finish ..
  | releaseEdit =>
    show ∃ t, execReleaseEdit s = .next t ∧ s.EndsWith op t
    refine of_carryOut hp ho (code hc) kept ?_
    split
    · exact ite (after (s := s) (op := op) (u := { s with planeState := .steady }) (.of_same rfl rfl) ..)
        (of_finish ..)
    · exact ite (of_finish ..) (of_finish ..)
    · exact of_finish ..
    · exact of_finish ..
  | putWindow =>
    show ∃ t, execPutWindow s = .next t ∧ s.EndsWith op t
    refine of_carryOut hp ho (code hc) renewed (asEditor ?_)
    split
    · exact after renewed ..
    · next i w _ =>
      have put : s.KeepsControl
          { s with planes := s.planes.set s.other (s.planes[s.other].set i w) } := .of_same rfl rfl
      exact after (put.trans (.renewLease _ op)) ..
  | revertStaged =>
    show ∃ t, execRevertStaged s = .next t ∧ s.EndsWith op t
    have copied : s.KeepsControl s.copyLive := .of_same rfl rfl
    exact of_carryOut hp ho (code hc) renewed (asEditor (after (copied.trans (.renewLease _ op)) ..))
  | requestSwitch =>
    show ∃ t, execRequestSwitch s = .next t ∧ s.EndsWith op t
    refine of_carryOut hp ho (code hc) renewed ?_
    split
    · exact of_finish ..
    · exact of_finish ..
    · exact ite (of_finish ..) (of_finish ..)
    · exact ite (switchBy s op) (of_finish ..)
  | cancelSwitch =>
    show ∃ t, execCancelSwitch s = .next t ∧ s.EndsWith op t
    refine of_carryOut hp ho (code hc) kept ?_
    split
    · exact ite (after (.backToEditing s _) ..) (of_finish ..)
    · exact of_finish ..
    · exact of_finish ..
    · exact of_finish ..
  | setLeasePeriod =>
    show ∃ t, execSetLeasePeriod s = .next t ∧ s.EndsWith op t
    refine of_carryOut hp ho (code hc) kept (ite ?_ (of_finish ..))
    exact after (s := s) (op := op) (u := { s with control := { s.control with leasePeriod := op.field 0 2 } })
      (.of_same rfl rfl) ..
  | setMasterLimits =>
    show ∃ t, execSetMasterLimits s = .next t ∧ s.EndsWith op t
    refine of_carryOut hp ho (code hc) kept ?_
    dsimp only
    split
    · exact of_finish ..
    · next m _ =>
      refine ite (of_finish ..) (ite (of_finish ..) (ite (of_finish ..) ?_))
      exact after (s := s) (op := op)
        (u := { s with control := { s.control with limits := s.control.limits.set m _ } })
        (.of_same rfl rfl) ..
  | setDeadlines =>
    show ∃ t, execSetDeadlines s = .next t ∧ s.EndsWith op t
    refine of_carryOut hp ho (code hc) kept ?_
    dsimp only
    split
    · exact of_finish ..
    · exact after (s := s) (op := op) (u := { s with control := { s.control with
        deadlines := #v[op.field 0 4, op.field 4 4, op.field 8 4, op.field 12 4] } })
        (.of_same rfl rfl) ..
  | clearQuarantine =>
    show ∃ t, execClearQuarantine s = .next t ∧ s.EndsWith op t
    refine of_carryOut hp ho (code hc) kept ?_
    split
    · exact of_finish ..
    · next m _ =>
      have down : (s.exitQuarantine m).KeepsControl ((s.exitQuarantine m).putMaster m .linkDown) :=
        .of_same rfl rfl
      exact ite (after ((State.KeepsControl.exitQuarantine s m).trans down) ..) (of_finish ..)
  | resetTarget =>
    show ∃ t, execResetTarget s = .next t ∧ s.EndsWith op t
    refine of_carryOut hp ho (code hc) kept ?_
    split
    · exact of_finish ..
    · next a _ =>
      have reset : s.KeepsControl (s.putTarget a .linkReset) := .of_same rfl rfl
      dsimp only
      split
      · exact of_finish ..
      · exact after (reset.trans (.leaveUp _ a .resetTarget)) ..
      · have down : (s.putTarget a .linkReset).KeepsControl
            ((s.putTarget a .linkReset).modTarget a fun p => { p with state := .down }) :=
          .of_same rfl rfl
        exact after ((reset.trans down).trans (.notifyAll _ _ _)) ..
      · exact after (reset.trans (.notifyAll _ _ _)) ..
  | _ => cases hc

end State.EndsWith

/-- The checks of a code outside the catalogue (R181). -/
theorem exec_unknownOperation {s : State} {op : Operation} (hp : s.pwronN = true)
    (ho : s.control.op = some op) : exec .unknownOperation s = .next
      (if 1 ≤ op.code.toNat ∧ op.code.toNat ≤ 17 then s
      else s.finish op .unknownOperation (.unknownOperation op.code)) := by
  have arm : exec .unknownOperation s = execUnknownOperation s := rfl
  rw [arm, execUnknownOperation, takeEvent_on hp]
  simp [ho, inCatalogue]

/-- Settles O19: each rule of an operation leaves the operation's slot to its CONTROL_DONE. -/
theorem operationEndsWithControlDone : Obligations.OperationEndsWithControlDone := by
  refine ⟨fun c op s hp ho hc => ?_, fun op code record s => ?_⟩
  · have ends : ∃ t, exec c s = .next t ∧ s.EndsWith op t := by
      rcases hc with hc | ⟨rfl, hc⟩
      · exact State.EndsWith.exec c hp ho hc
      · refine ⟨_, exec_unknownOperation hp ho, ?_⟩
        rw [if_neg (by omega)]
        exact .of_finish ..
    obtain ⟨t, ht, he⟩ := ends
    obtain ⟨code, record, h⟩ := he.controlDone
    exact ⟨t, code, record, ht, h⟩
  · rfl

/-- Settles O20: the checks of the catalogue, of the admin strap and of the form, in their order. -/
theorem checksBeforeTheOperationsOwn : Obligations.ChecksBeforeTheOperationsOwn := by
  refine ⟨fun c code s hc hp hn => ?_, fun op s hp ho => ⟨fun h => ?_, fun h => ?_⟩,
    fun c op s hc hp ho => ?_⟩
  · obtain ⟨e, na, of, own, arm, he, _⟩ := exec_operation c code hc
    rw [arm, carryOut, takeEvent_on hp]
    split
    · rfl
    · next op ho => rw [if_pos (he ▸ hn op ho)]
  · rw [exec_unknownOperation hp ho, if_neg (by omega)]
  · rw [exec_unknownOperation hp ho, if_pos h]
  · obtain ⟨e, na, of, own, arm, he, hb, had, hna, hof⟩ := exec_operation c op.code hc
    refine ⟨fun h7 hr => ?_, fun hr hl => ?_⟩
    · rw [arm, carryOut_notAdmin (n := op.args.length) ⟨hp, ho, rfl, rfl⟩ he (by simp [had, h7]) hr,
        hna h7]
    · have form : exec c s = .next ((of op s).finish op .badArgument .form) := by
        have admin : (e.admin && !s.isAdmin op.requester) = false := by
          rw [had]
          by_cases h7 : 7 ≤ op.code.toNat
          · simp [hr h7]
          · simp [h7]
        rw [arm, carryOut, takeEvent_on hp]
        simp only [ho, he, ne_eq, not_true, if_false, admin, Bool.false_eq_true, hb, hl,
          not_false_iff, if_true]
      rw [form, hof]
      refine ⟨fun t h9 h11 ht => ?_, fun h => ?_⟩
      · rw [if_pos ⟨h9, h11⟩, State.renewLease]
        simp only [ht, if_true]
        rfl
      · by_cases h9 : 9 ≤ op.code.toNat ∧ op.code.toNat ≤ 11
        · have other : s.renewLease op = s := by
            unfold State.renewLease
            split
            · next k t ht =>
              have hk : k ≠ op.requester := by
                rintro rfl
                exact (h.resolve_left (by omega)).resolve_left (by omega) t ht
              rw [if_neg hk]
            · rfl
          rw [if_pos h9, other]
        · rw [if_neg h9]

end Sys2Proof.Machine

namespace Sys2Proof.Machine

/-! ### The arguments of an operation in execution (11.4) -/

section Arguments

variable {op : Operation} {l : List Byte}

theorem Operation.byte_of_args (h : op.args = l) (i : Nat) : op.byte i = l.getD i 0 := by
  rw [Operation.byte, h]

/-- A field of two bytes, least significant byte first (11.1). -/
theorem Operation.field_two {i : Nat} {lo hi : Byte} {rest : List Byte}
    (h : op.args.drop i = lo :: hi :: rest) : op.field i 2 = lo.toNat + 256 * hi.toNat := by
  simp [Operation.field, leField, h, leNat]

end Arguments

section Reads

variable {op : Operation} {s : State}

/-! ### GET_WINDOW and PROBE (R18, R22) -/

theorem State.rolePlane_live {role : Byte} (h : role.toNat = 0) : s.rolePlane role = some s.live := by
  simp [State.rolePlane, h]

theorem State.rolePlane_other {role : Byte} (h : role.toNat = 1) : s.rolePlane role = some s.other := by
  simp [State.rolePlane, h]

theorem State.rolePlane_none {role : Byte} (h : 1 < role.toNat) : s.rolePlane role = none := by
  unfold State.rolePlane
  split
  · omega
  · omega
  · rfl

theorem State.roleOf_live : s.roleOf s.live = .live := if_pos rfl

theorem State.roleOf_other :
    s.roleOf s.other = if s.planeState = .draining then .old else .staged := by
  rw [State.roleOf, if_neg (show s.other ≠ s.live from otherPlane_ne s.live)]
  cases s.planeState <;> simp [PlaneState.phase]

theorem exec_getWindow_badRole (h : s.Executing op 0x01 2) (hr : 1 < (op.byte 0).toNat) :
    exec .getWindow s = .next (s.finish op .badArgument (.argument 0)) := by
  have arm : exec .getWindow s = execGetWindow s := rfl
  rw [arm]
  refine (carryOut_own (e := ⟨opGetWindow, false, 2⟩) h rfl rfl nofun).trans ?_
  simp only [State.rolePlane_none hr]
  rfl

theorem exec_getWindow_badIndex {p : PlaneId} (h : s.Executing op 0x01 2)
    (hp : s.rolePlane (op.byte 0) = some p) (hi : 32 ≤ (op.byte 1).toNat) :
    exec .getWindow s = .next (s.finish op .badArgument (.argument 1)) := by
  have arm : exec .getWindow s = execGetWindow s := rfl
  rw [arm]
  refine (carryOut_own (e := ⟨opGetWindow, false, 2⟩) h rfl rfl nofun).trans ?_
  simp only [hp, byteBelow_none hi]
  rfl

theorem exec_getWindow_reports {p : PlaneId} {i : WindowIndex} (h : s.Executing op 0x01 2)
    (hp : s.rolePlane (op.byte 0) = some p) (hi : i.val = (op.byte 1).toNat) :
    exec .getWindow s = .next (s.finish op .ok (.window (s.windowReport p i))) := by
  have arm : exec .getWindow s = execGetWindow s := rfl
  rw [arm]
  refine (carryOut_own (e := ⟨opGetWindow, false, 2⟩) h rfl rfl nofun).trans ?_
  simp only [hp, byteBelow_some hi]

theorem exec_probe_badKind (h : s.Executing op 0x02 7) (hk : 1 < (op.byte 6).toNat) :
    exec .probe s = .next (s.finish op .badArgument (.argument 1)) := by
  have arm : exec .probe s = execProbe s := rfl
  rw [arm]
  refine (carryOut_own (e := ⟨opProbe, false, 7⟩) h rfl rfl nofun).trans ?_
  simp only [byteBelow_none (n := 2) hk]
  rfl

theorem exec_probe_reports {w : Bool} {a : Address} (h : s.Executing op 0x02 7)
    (hk : (op.byte 6).toNat = if w then 1 else 0) (ha : op.field 0 6 = a.toNat) :
    exec .probe s = .next (s.finish op .ok (.probed (s.probeReport op.requester w a))) := by
  have arm : exec .probe s = execProbe s := rfl
  rw [arm]
  refine (carryOut_own (e := ⟨opProbe, false, 7⟩) h rfl rfl nofun).trans ?_
  have kind : byteBelow 2 (op.byte 6) = some (if w then 1 else 0) := by
    apply byteBelow_some
    cases w <;> simp [hk]
  have isWrite : ((if w then 1 else 0 : Fin 2) == 1) = w := by cases w <;> rfl
  simp only [kind, isWrite, ha, BitVec.ofNat_toNat, BitVec.setWidth_eq]

/-- Settles O21: the arguments are checked in their order, then the map is read. -/
theorem mapReadsReturnTheMap : Obligations.MapReadsReturnTheMap := by
  refine ⟨fun op role index s h hargs => ?_, fun op a kind s h hargs => ?_⟩
  · have hrole : op.byte 0 = role := Operation.byte_of_args hargs 0
    have hindex : op.byte 1 = index := Operation.byte_of_args hargs 1
    subst hrole hindex
    have plane : (op.byte 0).toNat ≤ 1 → s.rolePlane (op.byte 0) =
        some (if (op.byte 0).toNat = 0 then s.live else s.other) := fun h1 => by
      by_cases h0 : (op.byte 0).toNat = 0
      · rw [if_pos h0, State.rolePlane_live h0]
      · rw [if_neg h0, State.rolePlane_other (by omega)]
    refine ⟨exec_getWindow_badRole h, fun h1 => exec_getWindow_badIndex h (plane h1),
      fun h1 i hi => (exec_getWindow_reports h (plane h1) hi).trans ?_⟩
    unfold State.windowReport
    by_cases h0 : (op.byte 0).toNat = 0
    · simp only [if_pos h0, State.roleOf_live]
    · simp only [if_neg h0, State.roleOf_other]
  · have hkind : op.byte 6 = kind := by
      rw [Operation.byte_of_args hargs, List.getD_append_right _ _ _ _ (by rw [leBytes_length]),
        leBytes_length]
      rfl
    have haddr : op.field 0 6 = a.toNat := by
      rw [Operation.field, hargs]
      exact leField_leBytes [] [kind] 6 a.toNat 0 rfl a.isLt
    subst hkind
    refine ⟨exec_probe_badKind h, fun w hw => ?_⟩
    have report := exec_probe_reports h hw haddr
    refine ⟨fun hl => ?_, fun r hl => ?_, fun r hl => ?_, State.lookup_one_not_span s op.requester w a⟩
    all_goals
      rw [report, State.probeReport]
      simp only [hl]

/-! ### The status operations (R182 to R185) -/

theorem timeLeft_eq (now : Nat) (t : Option Nat) : timeLeft now t = t.getD now - now := by
  cases t <;> simp [timeLeft]

theorem State.mem_entryItems {m : Master} {x : EntryItem} : x ∈ s.entryItems m ↔
    ∃ u, (s.entry x.index).use = some u ∧ u.master = m ∧ x = s.entryItem x.index u := by
  simp only [State.entryItems, ortIndices, List.mem_filterMap, List.mem_finRange, true_and]
  constructor
  · rintro ⟨i, hi⟩
    cases hu : (s.entry i).use with
    | none => simp [hu] at hi
    | some u =>
      simp only [hu, Option.ite_none_right_eq_some, Option.some.injEq] at hi
      obtain ⟨hm, rfl⟩ := hi
      exact ⟨u, hu, hm, rfl⟩
  · rintro ⟨u, hu, hm, hx⟩
    refine ⟨x.index, ?_⟩
    simp only [hu, if_pos hm, ← hx]

theorem State.entryItems_sorted (s : State) (m : Master) :
    (s.entryItems m).Pairwise fun x y => x.index < y.index := by
  unfold State.entryItems ortIndices
  refine List.Pairwise.filterMap _ ?_ (List.pairwise_lt_finRange 64)
  intro i j hij x hx y hy
  split at hx
  · cases hx
  · split at hy
    · cases hy
    · simp only [Option.ite_none_right_eq_some, Option.some.injEq] at hx hy
      rw [← hx.2, ← hy.2]
      exact hij

theorem exec_getPlaneStatus (h : s.Executing op 0x03 0) :
    exec .getPlaneStatus s = .next (s.finish op .ok (.planeStatus s.planeStatus)) := by
  have arm : exec .getPlaneStatus s = execGetPlaneStatus s := rfl
  rw [arm]
  exact carryOut_own (e := ⟨opGetPlaneStatus, false, 0⟩) h rfl rfl nofun

theorem exec_getMasterStatus_bad (h : s.Executing op 0x04 1) (hn : 4 ≤ (op.byte 0).toNat) :
    exec .getMasterStatus s = .next (s.finish op .badArgument (.argument 0)) := by
  have arm : exec .getMasterStatus s = execGetMasterStatus s := rfl
  rw [arm]
  refine (carryOut_own (e := ⟨opGetMasterStatus, false, 1⟩) h rfl rfl nofun).trans ?_
  simp only [byteBelow_none hn]
  rfl

theorem exec_getMasterStatus_reports {m : Master} (h : s.Executing op 0x04 1)
    (hm : m.val = (op.byte 0).toNat) :
    exec .getMasterStatus s = .next (s.finish op .ok (.masterStatus (s.masterStatus m))) := by
  have arm : exec .getMasterStatus s = execGetMasterStatus s := rfl
  rw [arm]
  refine (carryOut_own (e := ⟨opGetMasterStatus, false, 1⟩) h rfl rfl nofun).trans ?_
  simp only [byteBelow_some hm]

theorem exec_getTargetStatus_bad (h : s.Executing op 0x05 1) (hn : 6 ≤ (op.byte 0).toNat) :
    exec .getTargetStatus s = .next (s.finish op .badArgument (.argument 0)) := by
  have arm : exec .getTargetStatus s = execGetTargetStatus s := rfl
  rw [arm]
  refine (carryOut_own (e := ⟨opGetTargetStatus, false, 1⟩) h rfl rfl nofun).trans ?_
  simp only [byteBelow_none hn]
  rfl

theorem exec_getTargetStatus_reports {a : Target} (h : s.Executing op 0x05 1)
    (ha : a.val = (op.byte 0).toNat) :
    exec .getTargetStatus s = .next (s.finish op .ok (.targetStatus (s.targetStatus a))) := by
  have arm : exec .getTargetStatus s = execGetTargetStatus s := rfl
  rw [arm]
  refine (carryOut_own (e := ⟨opGetTargetStatus, false, 1⟩) h rfl rfl nofun).trans ?_
  simp only [byteBelow_some ha]

theorem exec_getSettings (h : s.Executing op 0x06 0) :
    exec .getSettings s = .next (s.finish op .ok (.settings s.settingsReport)) := by
  have arm : exec .getSettings s = execGetSettings s := rfl
  rw [arm]
  exact carryOut_own (e := ⟨opGetSettings, false, 0⟩) h rfl rfl nofun

end Reads

/-- Settles O22: each status operation returns its record; the list of GET_MASTER_STATUS holds the
master's entries in index order. -/
theorem statusOperationsReadTheState : Obligations.StatusOperationsReadTheState := by
  refine ⟨fun op s h => ?_, fun op n s h hargs => ?_, fun op n s h hargs => ?_, fun op s h => ?_⟩
  · rw [exec_getPlaneStatus h, State.planeStatus]
    cases s.planeState <;> rfl
  · have hn : op.byte 0 = n := Operation.byte_of_args hargs 0
    subst hn
    refine ⟨exec_getMasterStatus_bad h, fun m hm =>
      ⟨s.masterStatus m, exec_getMasterStatus_reports h hm, rfl, rfl, rfl, rfl, rfl, rfl, rfl, rfl,
        rfl, rfl, rfl, rfl, rfl, rfl, rfl, rfl, rfl, rfl, fun f hf => ?_, fun hf => ?_, rfl,
        s.entryItems_sorted m, fun x => ?_⟩⟩
    · simp [State.masterStatus, hf]
    · simp [State.masterStatus, hf]
    · have member : x ∈ (s.masterStatus m).items ↔ x ∈ s.entryItems m := Iff.rfl
      rw [member, State.mem_entryItems]
      simp only [State.entryItem, timeLeft_eq]
  · have hn : op.byte 0 = n := Operation.byte_of_args hargs 0
    subst hn
    exact ⟨exec_getTargetStatus_bad h, fun a ha => exec_getTargetStatus_reports h ha⟩
  · exact exec_getSettings h

end Sys2Proof.Machine

namespace Sys2Proof.Machine

/-! ### CLAIM_EDIT (R25) -/

section Leases

variable {op : Operation} {s : State} {t : Timer} {k : Master}

theorem exec_claimEdit_notAdmin (h : s.Executing op 0x07 0) (hr : s.isAdmin op.requester = false) :
    exec .claimEdit s = .next (s.finish op .notAdmin s.refusal) := by
  have arm : exec .claimEdit s = execClaimEdit s := rfl
  exact arm.trans (carryOut_notAdmin (e := ⟨opClaimEdit, true, 0⟩) h rfl rfl hr)

theorem exec_claimEdit_steady (h : s.Executing op 0x07 0) (ha : s.isAdmin op.requester = true)
    (hp : s.planeState = .steady) : exec .claimEdit s = .next (s.grantClaim op) := by
  have arm : exec .claimEdit s = execClaimEdit s := rfl
  rw [arm]
  refine (carryOut_own (e := ⟨opClaimEdit, true, 0⟩) h rfl rfl fun _ => ha).trans ?_
  simp only [hp]

theorem exec_claimEdit_holder (h : s.Executing op 0x07 0) (ha : s.isAdmin op.requester = true)
    (hp : s.planeState = .editing op.requester t) :
    exec .claimEdit s = .next (s.grantClaim op) := by
  have arm : exec .claimEdit s = execClaimEdit s := rfl
  rw [arm]
  refine (carryOut_own (e := ⟨opClaimEdit, true, 0⟩) h rfl rfl fun _ => ha).trans ?_
  simp only [hp, if_true]

theorem exec_claimEdit_leaseHeld (h : s.Executing op 0x07 0) (ha : s.isAdmin op.requester = true)
    (hp : s.planeState = .editing k t) (hk : k ≠ op.requester) : exec .claimEdit s =
      .next (s.finish op .leaseHeld (.leaseHeld k (1000 * t.lengthMs - (s.now - t.started)))) := by
  have arm : exec .claimEdit s = execClaimEdit s := rfl
  rw [arm]
  refine (carryOut_own (e := ⟨opClaimEdit, true, 0⟩) h rfl rfl fun _ => ha).trans ?_
  simp only [hp, if_neg hk]
  rfl

theorem exec_claimEdit_busy (h : s.Executing op 0x07 0) (ha : s.isAdmin op.requester = true)
    (hp : s.planeState = .holding k t) :
    exec .claimEdit s = .next (s.finish op .busy s.refusal) := by
  have arm : exec .claimEdit s = execClaimEdit s := rfl
  rw [arm]
  refine (carryOut_own (e := ⟨opClaimEdit, true, 0⟩) h rfl rfl fun _ => ha).trans ?_
  simp only [hp]

theorem exec_claimEdit_draining (h : s.Executing op 0x07 0) (ha : s.isAdmin op.requester = true)
    (hp : s.planeState = .draining) :
    exec .claimEdit s = .next (s.finish op .draining s.refusal) := by
  have arm : exec .claimEdit s = execClaimEdit s := rfl
  rw [arm]
  refine (carryOut_own (e := ⟨opClaimEdit, true, 0⟩) h rfl rfl fun _ => ha).trans ?_
  simp only [hp]

/-! ### CANCEL_SWITCH (R37) -/

theorem exec_cancelSwitch_notAdmin (h : s.Executing op 0x0C 0) (hr : s.isAdmin op.requester = false) :
    exec .cancelSwitch s = .next (s.finish op .notAdmin s.refusal) := by
  have arm : exec .cancelSwitch s = execCancelSwitch s := rfl
  exact arm.trans (carryOut_notAdmin (e := ⟨opCancelSwitch, true, 0⟩) h rfl rfl hr)

theorem exec_cancelSwitch_notHolding (h : s.Executing op 0x0C 0) (ha : s.isAdmin op.requester = true)
    (hp : s.planeState.phase ≠ .holding) :
    exec .cancelSwitch s = .next (s.finish op .notHolding s.refusal) := by
  have arm : exec .cancelSwitch s = execCancelSwitch s := rfl
  rw [arm]
  refine (carryOut_own (e := ⟨opCancelSwitch, true, 0⟩) h rfl rfl fun _ => ha).trans ?_
  cases hs : s.planeState with
  | holding k t => exact absurd (by rw [hs, PlaneState.phase]) hp
  | steady => rfl
  | editing _ _ => rfl
  | draining => rfl

theorem exec_cancelSwitch_noLease (h : s.Executing op 0x0C 0) (ha : s.isAdmin op.requester = true)
    (hp : s.planeState = .holding k t) (hk : k ≠ op.requester) :
    exec .cancelSwitch s = .next (s.finish op .noLease s.refusal) := by
  have arm : exec .cancelSwitch s = execCancelSwitch s := rfl
  rw [arm]
  refine (carryOut_own (e := ⟨opCancelSwitch, true, 0⟩) h rfl rfl fun _ => ha).trans ?_
  simp only [hp, if_neg hk]

theorem exec_cancelSwitch_holder (h : s.Executing op 0x0C 0) (ha : s.isAdmin op.requester = true)
    (hp : s.planeState = .holding op.requester t) :
    exec .cancelSwitch s = .next ((s.backToEditing op.requester).finish op .ok
      (.cancelled s.generation s.control.leasePeriod)) := by
  have arm : exec .cancelSwitch s = execCancelSwitch s := rfl
  rw [arm]
  refine (carryOut_own (e := ⟨opCancelSwitch, true, 0⟩) h rfl rfl fun _ => ha).trans ?_
  simp only [hp, if_true]

/-- The return to EDITING, with the heads routed in some order (R54, log 26). -/
theorem State.backToEditing_resumed (hp : s.pwronN = true) (m : Master) :
    ∃ order : List Master, order.Perm [0, 1, 2, 3] ∧ s.backToEditing m =
      State.resumed { s with planeState := .editing m ⟨s.now, s.control.leasePeriod⟩ } order :=
  State.resumeHeads_resumed (s := { s with planeState := .editing m ⟨s.now, s.control.leasePeriod⟩ }) hp

/-! ### The lease checks of the edits (R19, R21, R24) -/

theorem State.asEditor_noLease {own : State → State} (hn : s.planeState.holder ≠ some op.requester) :
    s.asEditor op own = s.finish op .noLease s.refusal := by
  unfold State.asEditor
  cases hp : s.planeState with
  | steady => rfl
  | draining => rfl
  | editing k _ =>
    have hk : k ≠ op.requester := by simpa [hp, PlaneState.holder] using hn
    simp only [if_neg hk]
  | holding k _ =>
    have hk : k ≠ op.requester := by simpa [hp, PlaneState.holder] using hn
    simp only [if_neg hk]

theorem State.asEditor_holding {own : State → State} (hp : s.planeState = .holding op.requester t) :
    s.asEditor op own = s.finish op .busy s.refusal := by
  simp only [State.asEditor, hp, if_true]

theorem State.asEditor_editing {own : State → State} (hp : s.planeState = .editing op.requester t) :
    s.asEditor op own = own s := by
  simp only [State.asEditor, hp, if_true]

/-- The holder's lease timer is started again (R24). -/
theorem State.renewLease_holder (hp : s.planeState = .editing op.requester t) : s.renewLease op =
    { s with planeState := .editing op.requester ⟨s.now, s.control.leasePeriod⟩ } := by
  unfold State.renewLease
  split
  · next k t' hk =>
    rw [hp] at hk
    cases hk
    rw [if_pos rfl]
    rfl
  · next hn => exact absurd hp (hn op.requester t)

theorem exec_revertStaged (h : s.Executing op 0x0A 0) (ha : s.isAdmin op.requester = true) :
    exec .revertStaged s = .next (s.asEditor op fun s =>
      (s.copyLive.renewLease op).finish op .ok (.reverted s.generation)) := by
  have arm : exec .revertStaged s = execRevertStaged s := rfl
  rw [arm]
  exact carryOut_own (e := ⟨opRevertStaged, true, 0⟩) h rfl rfl fun _ => ha

end Leases

/-! ### The checks of PUT_WINDOW (R20) -/

section Put

variable {r : List Byte} {a : Vector Access 4} {b : Byte} {m : Fin 4}

/-- Of the four values of a pair of bits only 3 encodes no access (R191). -/
theorem accessOf_none {n : Nat} (hn : n < 4) : accessOf n = none ↔ n = 3 := by
  interval_cases n <;> simp [accessOf]

theorem accessOf_accessPair_none : accessOf (accessPair b m) = none ↔ accessPair b m = 3 :=
  accessOf_none (Nat.mod_lt _ (by decide))

theorem accessVector_none : accessVector b = none ↔ ∃ m : Fin 4, accessPair b m = 3 := by
  have split4 : (∃ m : Fin 4, accessPair b m = 3) ↔ accessPair b 0 = 3 ∨ accessPair b 1 = 3 ∨
      accessPair b 2 = 3 ∨ accessPair b 3 = 3 := by
    simp [Fin.exists_fin_succ]
  rw [split4]
  simp only [← accessOf_accessPair_none, accessVector]
  rcases accessOf (accessPair b 0) with _ | a0
  · simp
  rcases accessOf (accessPair b 1) with _ | a1
  · simp
  rcases accessOf (accessPair b 2) with _ | a2
  · simp
  rcases accessOf (accessPair b 3) with _ | a3
  · simp
  · simp

theorem accessVector_some (h : accessVector b = some a) (m : Fin 4) :
    accessOf (accessPair b m) = some a[m] := by
  unfold accessVector at h
  split at h
  · next a0 a1 a2 a3 h0 h1 h2 h3 =>
    cases h
    match m with
    | 0 => exact h0
    | 1 => exact h1
    | 2 => exact h2
    | 3 => exact h3
  · cases h

theorem recordFields_none : recordFields r = none ↔ 5 < (r.getD 2 0).toNat ∨ 2 < (r.getD 3 0).toNat ∨
    ∃ m : Fin 4, (r.getD 4 0).toNat / 4 ^ m.val % 4 = 3 := by
  have target : byteBelow 6 (r.getD 2 0) = none ↔ 5 < (r.getD 2 0).toNat := by
    simp only [byteBelow, dite_eq_right_iff, reduceCtorEq, imp_false]
    omega
  have access : accessVector (r.getD 4 0) = none ↔
      ∃ m : Fin 4, (r.getD 4 0).toNat / 4 ^ m.val % 4 = 3 := accessVector_none
  rw [← target, ← classOf_none, ← access, recordFields]
  rcases byteBelow 6 (r.getD 2 0) with _ | t
  · simp
  rcases classOf (r.getD 3 0) with _ | c
  · simp
  rcases accessVector (r.getD 4 0) with _ | a
  · simp
  · simp

theorem recordFields_some {t : Target} {c : OrderClass} (h : recordFields r = some (t, c, a)) :
    t.val = (r.getD 2 0).toNat ∧ classOf (r.getD 3 0) = some c ∧ accessVector (r.getD 4 0) = some a := by
  unfold recordFields at h
  split at h
  · next t' c' a' ht hc ha =>
    cases h
    refine ⟨?_, hc, ha⟩
    simp only [byteBelow, Option.dite_none_right_eq_some, Option.some.injEq] at ht
    obtain ⟨_, rfl⟩ := ht
    rfl
  · cases h

theorem classOf_iff {c : OrderClass} (h : classOf b = some c) :
    (c = .posted ↔ b.toNat = 0) ∧ (c = .strict ↔ b.toNat = 1) := by
  unfold classOf at h
  split at h <;> cases h <;> simp_all

theorem accessOf_iff {n : Nat} {x : Access} (h : accessOf n = some x) :
    (x = .none ↔ n = 0) ∧ (x = .read ↔ n = 1) := by
  unfold accessOf at h
  split at h <;> cases h <;> simp

theorem toNat_field_six (r : List Byte) (i : Nat) :
    (BitVec.ofNat 48 (leField r i 6)).toNat = leField r i 6 := by
  rw [BitVec.toNat_ofNat]
  exact Nat.mod_eq_of_lt (leField_lt r i 6)

theorem recordWindow_spells {t : Target} {c : OrderClass} (h : recordFields r = some (t, c, a)) :
    (recordWindow r t c a).Spells r := by
  obtain ⟨ht, hc, ha⟩ := recordFields_some h
  obtain ⟨hposted, hstrict⟩ := classOf_iff hc
  refine ⟨rfl, rfl, ht, hposted, hstrict, fun m => accessOf_iff (accessVector_some ha m), rfl, rfl,
    toNat_field_six r 6, fun hn => ?_, fun hy => ?_⟩
  · simp only [recordWindow, hn]
    rfl
  · exact ⟨_, by simp only [recordWindow, hy, if_true], toNat_field_six r 12⟩

/-- The alignment of a record's base, by its bytes. -/
theorem aligned_base {t : Target} {c : OrderClass} :
    aligned (recordWindow r t c a).base (recordWindow r t c a).sizeExp = true ↔
      leField r 6 6 % 2 ^ (r.getD 1 0).toNat = 0 := by
  simp only [aligned, recordWindow, toNat_field_six, beq_iff_eq]

/-- The alignment of a record's translated base, by its bytes; without one there is nothing to check. -/
theorem aligned_translation {t : Target} {c : OrderClass} :
    ((recordWindow r t c a).translation.all fun x => aligned x (recordWindow r t c a).sizeExp) = true ↔
      ((r.getD 0 0)[1] = true → leField r 12 6 % 2 ^ (r.getD 1 0).toNat = 0) := by
  simp only [recordWindow, aligned]
  cases (r.getD 0 0)[1] with
  | false => simp
  | true => simp only [if_true, Option.all_some, toNat_field_six, beq_iff_eq, true_implies]

theorem State.targetPresent_eq (s : State) (t : Target) :
    s.targetPresent t = s.straps.tpresent.getLsbD t.val := rfl

/-- An answer to the checks of R20 is the one that the first failure, if any, asks for. -/
def PutAgrees (index : Byte) (r : List Byte) (failure : Option PutReason)
    (answer : Except PutReason (WindowIndex × Window)) : Prop :=
  (∀ reason, failure = some reason → answer = .error reason) ∧
  (failure = none → ∃ (i : WindowIndex) (w : Window), i.val = index.toNat ∧ w.Spells r ∧
    answer = .ok (i, w))

namespace PutAgrees

variable {index : Byte} {f g : Option PutReason} {x y : Except PutReason (WindowIndex × Window)}

theorem refused (reason : PutReason) : PutAgrees index r (some reason) (.error reason) :=
  ⟨fun _ h => by cases h; rfl, nofun⟩

theorem stored {i : WindowIndex} {w : Window} (hi : i.val = index.toNat) (hw : w.Spells r) :
    PutAgrees index r none (.ok (i, w)) :=
  ⟨nofun, fun _ => ⟨i, w, hi, hw, rfl⟩⟩

/-- A check of the bytes and the model's check of the same thing. -/
theorem check {p : Prop} [Decidable p] {q : Bool} {reason : PutReason} (h : p ↔ q = true)
    (next : PutAgrees index r g y) :
    PutAgrees index r (if p then some reason else g) (if q then .error reason else y) := by
  by_cases hp : p
  · rw [if_pos hp, if_pos (h.mp hp)]
    exact refused reason
  · rw [if_neg hp, if_neg fun hq => hp (h.mpr hq)]
    exact next

/-- The checks 4 to 6, which a disabled entry does not meet, and the store. -/
theorem enabled {s : State} {i : WindowIndex} {t : Target} {c : OrderClass} (hi : i.val = index.toNat)
    (hf : recordFields r = some (t, c, a)) :
    PutAgrees index r
      (if (r.getD 0 0)[0] = false then none
      else if leField r 6 6 % 2 ^ (r.getD 1 0).toNat ≠ 0 then some .baseAlign
      else if (r.getD 0 0)[1] = true ∧ leField r 12 6 % 2 ^ (r.getD 1 0).toNat ≠ 0 then some .xlateAlign
      else if s.straps.tpresent.getLsbD (r.getD 2 0).toNat = false then some .targetAbsent
      else none)
      (let w := recordWindow r t c a
      if w.enabled && !aligned w.base w.sizeExp then .error .baseAlign
      else if w.enabled && !(w.translation.all fun x => aligned x w.sizeExp) then .error .xlateAlign
      else if w.enabled && !s.targetPresent w.target then .error .targetAbsent
      else .ok (i, w)) := by
  dsimp only
  have bit : (recordWindow r t c a).enabled = (r.getD 0 0)[0] := rfl
  have target : (recordWindow r t c a).target = t := rfl
  obtain ⟨ht, _, _⟩ := recordFields_some hf
  have done : PutAgrees index r none (.ok (i, recordWindow r t c a)) := stored hi (recordWindow_spells hf)
  rw [bit, target, State.targetPresent_eq, ht]
  cases (r.getD 0 0)[0] with
  | false => exact done
  | true =>
    refine check ?_ (check ?_ (check ?_ done))
    · rw [Ne, ← aligned_base (t := t) (c := c) (a := a)]
      simp
    · have h := aligned_translation (r := r) (t := t) (c := c) (a := a)
      simp only [Bool.true_and, Bool.not_eq_true', ← Bool.not_eq_true, h, Classical.not_imp, ne_eq]
    · simp

end PutAgrees

/-- The checks of R20 in the model's order refuse with the failure that the bytes show first, or store the
entry that the record spells. -/
theorem putAgrees_checkPut (s : State) (index : Byte) (r : List Byte) :
    PutAgrees index r (s.putFailure index r) (checkPut s index r) := by
  unfold State.putFailure checkPut
  by_cases h1 : 32 ≤ index.toNat
  · rw [if_pos h1, byteBelow_none h1]
    exact .refused .index
  · obtain ⟨i, hi⟩ : ∃ i : WindowIndex, i.val = index.toNat := ⟨⟨index.toNat, by omega⟩, rfl⟩
    simp only [if_neg h1, byteBelow_some hi]
    refine .check ?_ ?_
    · rw [← sizeOk_iff]
      simp
    · rcases hf : recordFields r with _ | ⟨t, c, a⟩
      · rw [if_pos (recordFields_none.mp hf)]
        exact .refused .field
      · rw [if_neg (fun h => by rw [recordFields_none.mpr h] at hf; cases hf)]
        exact .enabled hi hf

end Put

section PutWindow

variable {op : Operation} {s : State} {t : Timer}

theorem exec_putWindow_checked (h : s.Executing op 0x09 19) (ha : s.isAdmin op.requester = true) :
    ∃ own : State → State, exec .putWindow s = .next (s.asEditor op own) ∧
      (∀ reason, checkPut s (op.byte 0) (op.args.drop 1) = .error reason →
        own s = (s.renewLease op).finish op .badArgument (.putCheck reason (op.byte 0))) ∧
      (∀ i w, checkPut s (op.byte 0) (op.args.drop 1) = .ok (i, w) →
        own s = (State.renewLease
          { s with planes := s.planes.set s.other (s.planes[s.other].set i w) } op).finish op .ok
            (.windowPut s.other s.generation)) := by
  have arm : exec .putWindow s = execPutWindow s := rfl
  rw [arm]
  refine ⟨_, carryOut_own (e := ⟨opPutWindow, true, 1 + windowRecordBytes⟩) h rfl rfl fun _ => ha,
    fun reason hc => ?_, fun i w hc => ?_⟩
  · simp only [hc]
  · simp only [hc]
    rfl

end PutWindow

/-- Settles O25: the lease checks, then for PUT_WINDOW the checks of R20. -/
theorem editsWriteTheStagedPlane : Obligations.EditsWriteTheStagedPlane := by
  refine fun op s ha => ⟨fun index r h hargs => ?_, fun h => ?_⟩
  · obtain ⟨own, run, bad, good⟩ := exec_putWindow_checked h ha
    have hindex : op.byte 0 = index := Operation.byte_of_args hargs 0
    have hrecord : op.args.drop 1 = r := by rw [hargs]; rfl
    rw [hindex, hrecord] at bad good
    obtain ⟨refused, stored⟩ := putAgrees_checkPut s index r
    rw [run]
    refine ⟨fun hn => by rw [State.asEditor_noLease hn]; rfl,
      fun t hp => by rw [State.asEditor_holding hp]; rfl, fun t hp => ?_⟩
    rw [State.asEditor_editing hp]
    refine ⟨fun reason hf => ?_, fun hf => ?_⟩
    · rw [bad reason (refused reason hf), State.renewLease_holder hp]
    · obtain ⟨i, w, hi, hw, hc⟩ := stored hf
      refine ⟨i, w, hi, hw, ?_⟩
      rw [good i w hc, State.renewLease_holder
        (s := { s with planes := s.planes.set s.other (s.planes[s.other].set i w) }) hp]
  · rw [exec_revertStaged h ha]
    refine ⟨fun hn => by rw [State.asEditor_noLease hn]; rfl,
      fun t hp => by rw [State.asEditor_holding hp]; rfl, fun t hp => ?_⟩
    rw [State.asEditor_editing hp, State.renewLease_holder (s := s.copyLive) hp]
    rfl

/-- Settles O23: by the requester's role, then by the Plane Controller's state. -/
theorem claimEditByState : Obligations.ClaimEditByState := fun _ _ h =>
  ⟨exec_claimEdit_notAdmin h, fun ha =>
    ⟨exec_claimEdit_steady h ha, fun _ => exec_claimEdit_holder h ha,
      fun _ _ => exec_claimEdit_leaseHeld h ha, fun _ _ => exec_claimEdit_busy h ha,
      exec_claimEdit_draining h ha⟩⟩

/-- Settles O28: by the requester's role, then by the Plane Controller's state. -/
theorem cancelSwitchByState : Obligations.CancelSwitchByState := fun op s h =>
  ⟨exec_cancelSwitch_notAdmin h, fun ha =>
    ⟨exec_cancelSwitch_notHolding h ha, fun _ _ => exec_cancelSwitch_noLease h ha, fun _ hp => by
      obtain ⟨order, perm, resumed⟩ := s.backToEditing_resumed h.1 op.requester
      exact ⟨order, perm, by rw [exec_cancelSwitch_holder h ha hp, resumed]⟩⟩⟩

end Sys2Proof.Machine

namespace Sys2Proof.Machine

/-! ### What a switch does (R31 to R33, R41) -/

section Switch

variable {s : State}

theorem State.mapPorts_mapPorts (s : State) (f g : Master → MasterPort → MasterPort) :
    (s.mapPorts f).mapPorts g = s.mapPorts fun m p => g m (f m p) := by
  simp [State.mapPorts, State.port]

/-- The flip that reconciles in its event, as the statements spell it (R31, R41). -/
theorem State.completeSwitch_eq (s : State) : s.completeSwitch = s.flippedAndSettled := by
  have planes : s.flip.copyLive.planes = s.planes.set s.live s.planes[s.other] := by
    have e : s.flip.copyLive.planes = s.flip.planes.set s.flip.other s.flip.planes[s.flip.live] := rfl
    simp only [e, State.flip_live, State.flip_other, State.flip_planes]
  have whole : s.completeSwitch =
      State.mapPorts { s.flip with planes := s.flip.copyLive.planes, planeState := .steady }
        fun m p => if s.isAdmin m then p.notify (.planeSettled (s.generation + 1)) else p := rfl
  rw [whole, planes]
  have flipped : ∀ (v : Vector Plane 2) f, State.mapPorts { s.flip with planes := v, planeState := .steady } f =
      State.mapPorts (State.mapPorts
        { s with generation := s.generation + 1, planes := v, planeState := .steady }
        fun _ p => p.notify (.planeFlipped (s.generation + 1) (livePlane (s.generation + 1)))) f :=
    fun _ _ => rfl
  rw [flipped, State.mapPorts_mapPorts]
  unfold State.flippedAndSettled State.flipNotices
  simp only [Bool.true_and]

theorem State.immediateSwitch_settled (h : s.refCounts[s.live] = 0) :
    s.immediateSwitch = s.flippedAndSettled := by
  rw [← State.completeSwitch_eq]
  exact if_pos h

theorem State.immediateSwitch_draining (h : s.refCounts[s.live] ≠ 0) : s.immediateSwitch =
    ({ s with generation := s.generation + 1, planeState := .draining }).mapPorts
      fun m p => s.flipNotices (s.generation + 1) false m p := by
  have e : s.immediateSwitch = { s.flip with planeState := .draining } := if_neg h
  rw [e]
  rfl

end Switch

/-! ### REQUEST_SWITCH (R29 to R33) -/

section RequestSwitch

variable {op : Operation} {s : State} {t : Timer}

/-- Where REQUEST_SWITCH goes by the Plane Controller's state, before its arguments are read (R29). -/
theorem exec_requestSwitch_draining (h : s.Executing op 0x0B 3) (ha : s.isAdmin op.requester = true)
    (hp : s.planeState = .draining) :
    exec .requestSwitch s = .next (s.finish op .draining s.refusal) := by
  have arm : exec .requestSwitch s = execRequestSwitch s := rfl
  rw [arm]
  refine (carryOut_own (e := ⟨opRequestSwitch, true, 3⟩) h rfl rfl fun _ => ha).trans ?_
  simp only [hp]

theorem exec_requestSwitch_noLease (h : s.Executing op 0x0B 3) (ha : s.isAdmin op.requester = true)
    (hd : s.planeState ≠ .draining) (hn : s.planeState.holder ≠ some op.requester) :
    exec .requestSwitch s = .next (s.finish op .noLease s.refusal) := by
  have arm : exec .requestSwitch s = execRequestSwitch s := rfl
  rw [arm]
  refine (carryOut_own (e := ⟨opRequestSwitch, true, 3⟩) h rfl rfl fun _ => ha).trans ?_
  cases hp : s.planeState with
  | steady => rfl
  | draining => exact absurd hp hd
  | editing k _ =>
    have hk : k ≠ op.requester := by simpa [hp, PlaneState.holder] using hn
    simp only [if_neg hk]
  | holding k _ =>
    have hk : k ≠ op.requester := by simpa [hp, PlaneState.holder] using hn
    simp only [if_neg hk]

theorem exec_requestSwitch_holding (h : s.Executing op 0x0B 3) (ha : s.isAdmin op.requester = true)
    (hp : s.planeState = .holding op.requester t) :
    exec .requestSwitch s = .next (s.finish op .busy s.refusal) := by
  have arm : exec .requestSwitch s = execRequestSwitch s := rfl
  rw [arm]
  refine (carryOut_own (e := ⟨opRequestSwitch, true, 3⟩) h rfl rfl fun _ => ha).trans ?_
  simp only [hp, if_true]

theorem exec_requestSwitch_editing (h : s.Executing op 0x0B 3) (ha : s.isAdmin op.requester = true)
    (hp : s.planeState = .editing op.requester t) :
    exec .requestSwitch s = .next (s.switchBy op) := by
  have arm : exec .requestSwitch s = execRequestSwitch s := rfl
  rw [arm]
  refine (carryOut_own (e := ⟨opRequestSwitch, true, 3⟩) h rfl rfl fun _ => ha).trans ?_
  simp only [hp, if_true]

theorem State.switchBy_badMode (hm : 1 < (op.byte 0).toNat) :
    s.switchBy op = (s.renewLease op).finish op .badArgument (.argument 0) := by
  simp only [State.switchBy, modeOf_none hm]
  rfl

theorem State.switchBy_badLimit (hm : (op.byte 0).toNat = 1)
    (hl : op.field 1 2 = 0 ∨ 1000 < op.field 1 2) :
    s.switchBy op = (s.renewLease op).finish op .badArgument (.argument 1) := by
  have out : ¬(1 ≤ op.field 1 2 ∧ op.field 1 2 ≤ 1000) := by omega
  simp only [State.switchBy, modeOf_quiesced hm, out, not_false_iff, and_self, if_true]
  rfl

/-- The first pair that overlaps, in index order, is the one the search finds (R29). -/
theorem firstOverlap_some {p : Plane} {i j : WindowIndex} (hij : i < j) (ho : p[i].overlaps p[j] = true)
    (hmin : ∀ i' j' : WindowIndex, i' < j' → p[i'].overlaps p[j'] = true → i < i' ∨ (i = i' ∧ j ≤ j')) :
    firstOverlap p = some (i, j) := by
  refine findSome?_finRange (i := i) ?_ fun k hk => ?_
  · have partner : ((List.finRange 32).find? fun j => decide (i < j) && p[i].overlaps p[j]) = some j := by
      refine find?_finRange (by simpa [hij] using ho) fun l hl => ?_
      by_contra hc
      simp only [Bool.not_eq_false, Bool.and_eq_true, decide_eq_true_eq] at hc
      rcases hmin i l hc.1 hc.2 with h | ⟨_, h⟩
      · exact absurd h (lt_irrefl i)
      · exact absurd hl (not_lt.mpr h)
    rw [partner]
    rfl
  · rw [Option.map_eq_none_iff, List.find?_eq_none]
    intro l _ hc
    simp only [Bool.and_eq_true, decide_eq_true_eq] at hc
    rcases hmin k l hc.1 hc.2 with h | ⟨rfl, _⟩
    · exact absurd h (not_lt.mpr hk.le)
    · exact absurd hk (lt_irrefl i)

/-- The mode and the drain limit of a REQUEST_SWITCH are in range (R29). -/
def Operation.SwitchArguments (op : Operation) (mode : SwitchMode) : Prop :=
  modeOf (op.byte 0) = some mode ∧ (mode = .quiesced → 1 ≤ op.field 1 2 ∧ op.field 1 2 ≤ 1000)

theorem Operation.switchArguments_immediate (h : (op.byte 0).toNat = 0) :
    op.SwitchArguments .immediate := ⟨modeOf_immediate h, nofun⟩

theorem Operation.switchArguments_quiesced (h : (op.byte 0).toNat = 1) (h1 : 1 ≤ op.field 1 2)
    (h2 : op.field 1 2 ≤ 1000) : op.SwitchArguments .quiesced :=
  ⟨modeOf_quiesced h, fun _ => ⟨h1, h2⟩⟩

theorem State.switchBy_overlap {mode : SwitchMode} {i j : WindowIndex} (hm : op.SwitchArguments mode)
    (ho : firstOverlap s.planes[s.other] = some (i, j)) :
    s.switchBy op = (s.renewLease op).finish op .invalidPlane (.invalidPlane i j) := by
  have limit : ¬(mode = .quiesced ∧ ¬(1 ≤ op.field 1 2 ∧ op.field 1 2 ≤ 1000)) :=
    fun hc => hc.2 (hm.2 hc.1)
  simp only [State.switchBy, hm.1, if_neg limit, ho]

theorem State.switchBy_immediate (hm : op.SwitchArguments .immediate)
    (ho : firstOverlap s.planes[s.other] = none) : s.switchBy op =
      s.immediateSwitch.finish op .ok (s.immediateSwitch.switchRecord .immediate none) := by
  simp only [State.switchBy, hm.1, reduceCtorEq, false_and, if_false, ho]

theorem State.switchBy_quiesced (hm : op.SwitchArguments .quiesced)
    (ho : firstOverlap s.planes[s.other] = none) : s.switchBy op =
      (s.quiescedSwitch op.requester (op.field 1 2)).finish op .ok
        ((s.quiescedSwitch op.requester (op.field 1 2)).switchRecord .quiesced
          (if (s.quiescedSwitch op.requester (op.field 1 2)).planeState.isHolding
            then some (op.field 1 2) else none)) := by
  simp only [State.switchBy, hm.1, hm.2 rfl, and_self, not_true, and_false, if_false, ho]

theorem State.quiescedSwitch_settled (h : s.refCounts[s.live] = 0) (m : Master) (limit : Nat) :
    s.quiescedSwitch m limit = s.flippedAndSettled := by
  rw [← State.completeSwitch_eq]
  exact if_pos h

theorem State.quiescedSwitch_holding (h : s.refCounts[s.live] ≠ 0) (m : Master) (limit : Nat) :
    s.quiescedSwitch m limit = { s with planeState := .holding m ⟨s.now, limit⟩ } := if_neg h

theorem State.switchRecord_settled (s : State) (mode : SwitchMode) (l : Option Nat) :
    s.flippedAndSettled.switchRecord mode l =
      .switched mode .steady (s.generation + 1) s.other true l := by
  have live : s.flippedAndSettled.live = s.other := livePlane_succ s.generation
  rw [State.switchRecord, live]
  rfl

end RequestSwitch

/-- Settles O26: the Plane Controller's state first, then the mode, the drain limit and the overlap. -/
theorem requestSwitchRefusedInOrder : Obligations.RequestSwitchRefusedInOrder := by
  intro op mode lo hi s ha h hargs
  have hmode : op.byte 0 = mode := Operation.byte_of_args hargs 0
  have hlimit : op.field 1 2 = lo.toNat + 256 * hi.toNat :=
    Operation.field_two (rest := []) (by rw [hargs]; rfl)
  subst hmode
  refine ⟨exec_requestSwitch_draining h ha, exec_requestSwitch_noLease h ha,
    fun t => exec_requestSwitch_holding h ha, fun t hp => ?_⟩
  rw [exec_requestSwitch_editing h ha hp, ← State.renewLease_holder hp, ← hlimit]
  refine ⟨fun hm => by rw [State.switchBy_badMode hm],
    fun hm hl => by rw [State.switchBy_badLimit hm hl], fun hm i j hij ho hmin => ?_⟩
  have overlap := firstOverlap_some hij ho hmin
  rcases hm with hm | ⟨hm, h1, h2⟩
  · rw [State.switchBy_overlap (Operation.switchArguments_immediate hm) overlap]
  · rw [State.switchBy_overlap (Operation.switchArguments_quiesced hm h1 h2) overlap]

/-- Settles O27: by the mode, and by whether the live plane's count is 0. -/
theorem requestSwitchTaken : Obligations.RequestSwitchTaken := by
  intro op mode lo hi t s ha h hargs hp hno
  have hmode : op.byte 0 = mode := Operation.byte_of_args hargs 0
  have hlimit : op.field 1 2 = lo.toNat + 256 * hi.toNat :=
    Operation.field_two (rest := []) (by rw [hargs]; rfl)
  have free := hno.firstOverlap
  subst hmode
  rw [exec_requestSwitch_editing h ha hp, ← hlimit]
  refine ⟨fun h0 hm => ?_, fun h0 hm => ?_, fun h0 hm h1 h2 => ?_, fun h0 hm h1 h2 => ?_⟩
  · rw [State.switchBy_immediate (Operation.switchArguments_immediate hm) free,
      State.immediateSwitch_settled h0, State.switchRecord_settled]
  · have live : s.immediateSwitch.live = s.other := by
      rw [State.immediateSwitch_draining h0]
      exact livePlane_succ s.generation
    rw [State.switchBy_immediate (Operation.switchArguments_immediate hm) free, State.switchRecord, live,
      State.immediateSwitch_draining h0]
    rfl
  · rw [State.switchBy_quiesced (Operation.switchArguments_quiesced hm h1 h2) free,
      State.quiescedSwitch_settled h0, State.switchRecord_settled]
    rfl
  · rw [State.switchBy_quiesced (Operation.switchArguments_quiesced hm h1 h2) free,
      State.quiescedSwitch_holding h0]
    rfl

end Sys2Proof.Machine

namespace Sys2Proof.Machine

/-! ### The settings operations (R186 to R188) -/

section Settings

variable {op : Operation} {s : State}

theorem exec_setLeasePeriod (h : s.Executing op 0x0D 2) (ha : s.isAdmin op.requester = true) :
    exec .setLeasePeriod s = .next (if 1 ≤ op.field 0 2 ∧ op.field 0 2 ≤ 1000 then
      State.finish { s with control := { s.control with leasePeriod := op.field 0 2 } } op .ok
        (.periodSet s.control.leasePeriod (op.field 0 2))
    else s.finish op .badArgument (.argument 0)) := by
  have arm : exec .setLeasePeriod s = execSetLeasePeriod s := rfl
  exact arm.trans (carryOut_own (e := ⟨opSetLeasePeriod, true, 2⟩) h rfl rfl fun _ => ha)

theorem exec_setMasterLimits_badMaster (h : s.Executing op 0x0E 5) (ha : s.isAdmin op.requester = true)
    (hn : 4 ≤ (op.byte 0).toNat) :
    exec .setMasterLimits s = .next (s.finish op .badArgument (.argument 0)) := by
  have arm : exec .setMasterLimits s = execSetMasterLimits s := rfl
  rw [arm]
  refine (carryOut_own (e := ⟨opSetMasterLimits, true, 5⟩) h rfl rfl fun _ => ha).trans ?_
  simp only [byteBelow_none hn]
  rfl

/-- The three ranges of a master's limits are checked in the order of the arguments (R187). -/
theorem exec_setMasterLimits_master {m : Master} (h : s.Executing op 0x0E 5)
    (ha : s.isAdmin op.requester = true) (hm : m.val = (op.byte 0).toNat) (l : Limits)
    (hl : l = ⟨(op.byte 1).toNat, (op.byte 2).toNat, op.field 3 2⟩) :
    exec .setMasterLimits s = .next
      (if ¬(1 ≤ l.quota ∧ l.quota ≤ 64) then s.finish op .badArgument (.argument 1)
      else if ¬(1 ≤ l.weight ∧ l.weight ≤ 8) then s.finish op .badArgument (.argument 2)
      else if ¬(1 ≤ l.stall ∧ l.stall ≤ 250) then s.finish op .badArgument (.argument 3)
      else State.finish { s with control := { s.control with limits := s.control.limits.set m l } } op .ok
        (.limitsSet (s.limits m) l)) := by
  have arm : exec .setMasterLimits s = execSetMasterLimits s := rfl
  rw [arm, hl]
  refine (carryOut_own (e := ⟨opSetMasterLimits, true, 5⟩) h rfl rfl fun _ => ha).trans ?_
  simp only [byteBelow_some hm]
  rfl

/-- The four class values that a SET_DEADLINES spells (11.4). -/
def Operation.deadlines (op : Operation) : Vector Nat 4 :=
  #v[op.field 0 4, op.field 4 4, op.field 8 4, op.field 12 4]

theorem Operation.deadlines_eq {v : Vector Nat 4} (hv : ∀ d : DeadlineClass, v[d] < 2 ^ 32)
    (hargs : op.args = leBytes 4 v[0] ++ leBytes 4 v[1] ++ leBytes 4 v[2] ++ leBytes 4 v[3]) :
    op.deadlines = v := by
  have f0 : op.field 0 4 = v[0] := by
    rw [Operation.field, hargs, List.append_assoc, List.append_assoc]
    exact leField_leBytes [] _ 4 v[0] 0 rfl (hv 0)
  have f1 : op.field 4 4 = v[1] := by
    rw [Operation.field, hargs, List.append_assoc]
    exact leField_leBytes _ _ 4 v[1] 4 (leBytes_length 4 _) (hv 1)
  have f2 : op.field 8 4 = v[2] := by
    rw [Operation.field, hargs]
    exact leField_leBytes _ _ 4 v[2] 8 (by simp [leBytes_length]) (hv 2)
  have f3 : op.field 12 4 = v[3] := by
    rw [Operation.field, hargs, ← List.append_nil (_ ++ leBytes 4 v[3])]
    exact leField_leBytes _ _ 4 v[3] 12 (by simp [leBytes_length]) (hv 3)
  rw [Operation.deadlines, f0, f1, f2, f3]
  ext i hi
  match i, hi with
  | 0, _ => rfl
  | 1, _ => rfl
  | 2, _ => rfl
  | 3, _ => rfl

theorem exec_setDeadlines_refused {d : DeadlineClass} (h : s.Executing op 0x0F 16)
    (ha : s.isAdmin op.requester = true)
    (hd : ((List.finRange 4).find? fun d => !deadlineOk op.deadlines[d]) = some d) :
    exec .setDeadlines s = .next (s.finish op .badArgument (.argument d.val)) := by
  have arm : exec .setDeadlines s = execSetDeadlines s := rfl
  rw [arm]
  refine (carryOut_own (e := ⟨opSetDeadlines, true, 16⟩) h rfl rfl fun _ => ha).trans ?_
  unfold Operation.deadlines at hd
  simp only [hd]
  rfl

theorem exec_setDeadlines_set (h : s.Executing op 0x0F 16) (ha : s.isAdmin op.requester = true)
    (hd : ((List.finRange 4).find? fun d => !deadlineOk op.deadlines[d]) = none) :
    exec .setDeadlines s = .next (State.finish
      { s with control := { s.control with deadlines := op.deadlines } } op .ok
      (.deadlinesSet s.control.deadlines op.deadlines)) := by
  have arm : exec .setDeadlines s = execSetDeadlines s := rfl
  rw [arm]
  refine (carryOut_own (e := ⟨opSetDeadlines, true, 16⟩) h rfl rfl fun _ => ha).trans ?_
  unfold Operation.deadlines at hd ⊢
  simp only [hd]

end Settings

/-- Settles O29: each operation checks its arguments in their order and then replaces the values named. -/
theorem settingsAreReplacedInRange : Obligations.SettingsAreReplacedInRange := by
  refine ⟨fun op lo hi s ha h hargs => ?_, fun op n q w lo hi s ha h hargs => ?_,
    fun op v s ha h hv hargs => ?_⟩
  · have period : op.field 0 2 = lo.toNat + 256 * hi.toNat :=
      Operation.field_two (rest := []) (by rw [hargs]; rfl)
    rw [exec_setLeasePeriod h ha, ← period]
    exact ⟨fun h1 h2 => by rw [if_pos ⟨h1, h2⟩], fun hp => by rw [if_neg (by omega)]⟩
  · have hn : op.byte 0 = n := Operation.byte_of_args hargs 0
    have hq : op.byte 1 = q := Operation.byte_of_args hargs 1
    have hw : op.byte 2 = w := Operation.byte_of_args hargs 2
    have hstall : op.field 3 2 = lo.toNat + 256 * hi.toNat :=
      Operation.field_two (rest := []) (by rw [hargs]; rfl)
    subst hn hq hw
    rw [← hstall]
    have master {m : Master} (hm : m.val = (op.byte 0).toNat) :=
      exec_setMasterLimits_master h ha hm _ rfl
    have named (hm : (op.byte 0).toNat < 4) := master (m := ⟨_, hm⟩) rfl
    refine ⟨exec_setMasterLimits_badMaster h ha, fun hm hq => ?_, fun hm q1 q2 hw => ?_,
      fun hm q1 q2 w1 w2 hs => ?_, fun m hm q1 q2 w1 w2 s1 s2 => ?_⟩
    · rw [named hm, if_pos (by dsimp only; omega)]
    · rw [named hm, if_neg (not_not_intro ⟨q1, q2⟩), if_pos (by dsimp only; omega)]
    · rw [named hm, if_neg (not_not_intro ⟨q1, q2⟩), if_neg (not_not_intro ⟨w1, w2⟩),
        if_pos (by dsimp only; omega)]
    · rw [master hm, if_neg (not_not_intro ⟨q1, q2⟩), if_neg (not_not_intro ⟨w1, w2⟩),
        if_neg (not_not_intro ⟨s1, s2⟩)]
  · have spelt := Operation.deadlines_eq hv hargs
    refine ⟨fun hin => ?_, fun d hd hin => ?_⟩
    · have none : ((List.finRange 4).find? fun d => !deadlineOk op.deadlines[d]) = none := by
        rw [List.find?_eq_none]
        intro d _
        simp only [spelt, (EventBy.deadlineOk_iff _).mpr (hin d), Bool.not_true, Bool.false_eq_true,
          not_false_iff]
      rw [exec_setDeadlines_set h ha none, spelt]
    · refine exec_setDeadlines_refused h ha (find?_finRange ?_ fun e he => ?_)
      · rw [spelt, Bool.not_eq_true', ← Bool.not_eq_true, EventBy.deadlineOk_iff]
        omega
      · rw [spelt, Bool.not_eq_false', EventBy.deadlineOk_iff]
        exact hin e he

/-! ### CLEAR_QUARANTINE and RESET_TARGET (R130, R174) -/

section Recovery

variable {op : Operation} {s : State}

theorem exec_clearQuarantine_badMaster (h : s.Executing op 0x10 1) (ha : s.isAdmin op.requester = true)
    (hn : 4 ≤ (op.byte 0).toNat) :
    exec .clearQuarantine s = .next (s.finish op .badArgument (.argument 0)) := by
  have arm : exec .clearQuarantine s = execClearQuarantine s := rfl
  rw [arm]
  refine (carryOut_own (e := ⟨opClearQuarantine, true, 1⟩) h rfl rfl fun _ => ha).trans ?_
  simp only [byteBelow_none hn]
  rfl

theorem exec_clearQuarantine_master {m : Master} (h : s.Executing op 0x10 1)
    (ha : s.isAdmin op.requester = true) (hm : m.val = (op.byte 0).toNat) :
    exec .clearQuarantine s = .next (if m ≠ op.requester ∧ (s.port m).state = .quarantined then
      ((s.exitQuarantine m).putMaster m .linkDown).finish op .ok (.quarantineCleared m)
    else s.finish op .notQuarantined .empty) := by
  have arm : exec .clearQuarantine s = execClearQuarantine s := rfl
  rw [arm]
  refine (carryOut_own (e := ⟨opClearQuarantine, true, 1⟩) h rfl rfl fun _ => ha).trans ?_
  simp only [byteBelow_some hm]

/-- A change of a target port that leaves its record as it is. -/
theorem State.modTarget_of_fixed {t : Target} {f : TargetPort → TargetPort}
    (h : f (s.target t) = s.target t) : s.modTarget t f = s := by
  rw [State.modTarget, h]
  simp [State.setTarget, State.target]

theorem exec_resetTarget_badTarget (h : s.Executing op 0x11 1) (ha : s.isAdmin op.requester = true)
    (hn : 6 ≤ (op.byte 0).toNat) :
    exec .resetTarget s = .next (s.finish op .badArgument (.argument 0)) := by
  have arm : exec .resetTarget s = execResetTarget s := rfl
  rw [arm]
  refine (carryOut_own (e := ⟨opResetTarget, true, 1⟩) h rfl rfl fun _ => ha).trans ?_
  simp only [byteBelow_none hn]
  rfl

theorem exec_resetTarget_absent {a : Target} (h : s.Executing op 0x11 1)
    (ha : s.isAdmin op.requester = true) (hn : a.val = (op.byte 0).toNat)
    (hs : (s.target a).state = .absent) :
    exec .resetTarget s = .next (s.finish op .badArgument (.argument 0)) := by
  have arm : exec .resetTarget s = execResetTarget s := rfl
  rw [arm]
  refine (carryOut_own (e := ⟨opResetTarget, true, 1⟩) h rfl rfl fun _ => ha).trans ?_
  simp only [byteBelow_some hn, hs]
  rfl

theorem exec_resetTarget_up {a : Target} (h : s.Executing op 0x11 1) (ha : s.isAdmin op.requester = true)
    (hn : a.val = (op.byte 0).toNat) (hs : (s.target a).state = .up) : exec .resetTarget s = .next
      (((s.putTarget a .linkReset).leaveUp a .resetTarget).finish op .ok (.targetReset a .up)) := by
  have arm : exec .resetTarget s = execResetTarget s := rfl
  rw [arm]
  refine (carryOut_own (e := ⟨opResetTarget, true, 1⟩) h rfl rfl fun _ => ha).trans ?_
  simp only [byteBelow_some hn, hs]

/-- Outside UP the port is DOWN with a notice, and its entries stay (R130). -/
theorem exec_resetTarget_down {a : Target} (h : s.Executing op 0x11 1) (ha : s.isAdmin op.requester = true)
    (hn : a.val = (op.byte 0).toNat)
    (hs : (s.target a).state = .down ∨ (s.target a).state = .training) :
    exec .resetTarget s = .next (State.finish
      (((s.putTarget a .linkReset).modTarget a fun p => { p with state := .down }).notifyAll
        (fun _ => true) (.targetDown a .resetTarget (s.target a).state))
      op .ok (.targetReset a (s.target a).state)) := by
  have arm : exec .resetTarget s = execResetTarget s := rfl
  rw [arm]
  refine (carryOut_own (e := ⟨opResetTarget, true, 1⟩) h rfl rfl fun _ => ha).trans ?_
  simp only [byteBelow_some hn]
  rcases hs with hs | hs
  · have stays : (s.putTarget a .linkReset).modTarget a (fun p => { p with state := .down }) =
        s.putTarget a .linkReset := by
      refine State.modTarget_of_fixed ?_
      have e : (s.putTarget a .linkReset).target a = s.target a := rfl
      rw [e, ← hs]
    rw [stays]
    simp only [hs]
    rfl
  · simp only [hs]
    rfl

end Recovery

/-- Settles O30: by the master the operation names. -/
theorem clearQuarantineOpensTheWay : Obligations.ClearQuarantineOpensTheWay := by
  intro op n s ha h hargs
  have hn : op.byte 0 = n := Operation.byte_of_args hargs 0
  subst hn
  refine ⟨exec_clearQuarantine_badMaster h ha, fun m hm => ⟨fun hs => ?_, fun hq hne => ?_⟩⟩
  · rw [exec_clearQuarantine_master h ha hm, if_neg]
    rintro ⟨hne, hq⟩
    exact hs.elim (fun k => k hq) hne
  · rw [exec_clearQuarantine_master h ha hm, if_pos ⟨hne, hq⟩]
    rfl

/-- Settles O31: by the state of the port the operation names. -/
theorem resetTargetPutsThePortDown : Obligations.ResetTargetPutsThePortDown := by
  intro op n s ha h hargs
  have hn : op.byte 0 = n := Operation.byte_of_args hargs 0
  subst hn
  exact ⟨exec_resetTarget_badTarget h ha, fun a hm => ⟨exec_resetTarget_absent h ha hm,
    exec_resetTarget_down h ha hm, fun hs hl hp =>
      ⟨_, State.leaveUp_leftUp (s := s.putTarget a .linkReset) hl hp a .resetTarget,
        exec_resetTarget_up h ha hm hs⟩⟩⟩

end Sys2Proof.Machine

namespace Sys2Proof.Machine

/-! ### The Plane Controller's own events (R27, R35, R36, R39, R41 to R44) -/

section PlaneEvents

variable {s : State} {h m : Master} {t : Timer} {p : PlaneId}

theorem exec_leaseTimerExpiry_editing (hp : s.pwronN = true) (hs : s.planeState = .editing h t) :
    exec .leaseTimerExpiry s = .next
      (({ s.advanceTo t.expiry with planeState := .steady }).notify h (.leaseExpired s.generation)) := by
  have arm : exec .leaseTimerExpiry s = execLeaseTimerExpiry s := rfl
  rw [arm, execLeaseTimerExpiry, takeEvent_on hp]
  simp only [hs]

theorem exec_leaseTimerExpiry_other (hp : s.pwronN = true) (hs : s.planeState.phase ≠ .editing) :
    exec .leaseTimerExpiry s = .next s := by
  have arm : exec .leaseTimerExpiry s = execLeaseTimerExpiry s := rfl
  rw [arm, execLeaseTimerExpiry, takeEvent_on hp]
  cases hps : s.planeState with
  | editing h t => exact absurd (by rw [hps, PlaneState.phase]) hs
  | steady => rfl
  | holding _ _ => rfl
  | draining => rfl

theorem exec_drainLimitExpiry_holding (hp : s.pwronN = true) (hs : s.planeState = .holding h t) :
    exec .drainLimitExpiry s = .next
      (((s.advanceTo t.expiry).backToEditing h).notify h (.switchAbandoned .drainLimit s.generation)) := by
  have arm : exec .drainLimitExpiry s = execDrainLimitExpiry s := rfl
  rw [arm, execDrainLimitExpiry, takeEvent_on hp]
  simp only [hs]

theorem exec_drainLimitExpiry_other (hp : s.pwronN = true) (hs : s.planeState.phase ≠ .holding) :
    exec .drainLimitExpiry s = .next s := by
  have arm : exec .drainLimitExpiry s = execDrainLimitExpiry s := rfl
  rw [arm, execDrainLimitExpiry, takeEvent_on hp]
  cases hps : s.planeState with
  | holding h t => exact absurd (by rw [hps, PlaneState.phase]) hs
  | steady => rfl
  | editing _ _ => rfl
  | draining => rfl

/-- The time is not set back (log 3). -/
theorem State.advanceTo_now (s : State) (d : Nat) : (s.advanceTo d).now = max s.now d := by
  have e : (s.advanceTo d).now = s.now + (d - s.now) := rfl
  omega

/-- The return to EDITING from the drain limit's expiry, with the lease timer that starts then (R36). -/
theorem State.backToEditing_advanced (hp : s.pwronN = true) (d : Nat) (h : Master) :
    ∃ order : List Master, order.Perm [0, 1, 2, 3] ∧ (s.advanceTo d).backToEditing h = State.resumed
      { s.advanceTo d with planeState := .editing h ⟨max s.now d, s.control.leasePeriod⟩ } order := by
  rw [← State.advanceTo_now]
  exact (s.advanceTo d).backToEditing_resumed hp h

theorem exec_planeCountDecrement_none (hp : s.pwronN = true) (hd : s.decrements[p] = 0) :
    exec (.planeCountDecrement p) s = .next s := by
  have arm : exec (.planeCountDecrement p) s = execPlaneCountDecrement p s := rfl
  rw [arm, execPlaneCountDecrement, takeEvent_on hp, if_pos hd]

theorem exec_planeCountDecrement_sent (hp : s.pwronN = true) (hd : 0 < s.decrements[p]) :
    exec (.planeCountDecrement p) s = .next
      (if s.refCounts[p] - 1 = 0 then (s.decremented p).countZero p else s.decremented p) := by
  have arm : exec (.planeCountDecrement p) s = execPlaneCountDecrement p s := rfl
  rw [arm, execPlaneCountDecrement, takeEvent_on hp, if_neg (Nat.pos_iff_ne_zero.mp hd)]
  rfl

theorem State.countZero_draining (hs : s.planeState.phase = .draining) (ho : p = s.other) :
    s.countZero p = s.reconcile := by
  unfold State.countZero
  cases hps : s.planeState with
  | draining => exact if_pos ho
  | steady => rw [hps] at hs; cases hs
  | editing _ _ => rw [hps] at hs; cases hs
  | holding _ _ => rw [hps] at hs; cases hs

theorem State.countZero_holding (hs : s.planeState.phase = .holding) (hl : p = s.live) :
    s.countZero p = s.completeSwitch.resumeHeads := by
  unfold State.countZero
  cases hps : s.planeState with
  | holding _ _ => exact if_pos hl
  | steady => rw [hps] at hs; cases hs
  | editing _ _ => rw [hps] at hs; cases hs
  | draining => rw [hps] at hs; cases hs

theorem State.countZero_other (hd : ¬(s.planeState.phase = .draining ∧ p = s.other))
    (hh : ¬(s.planeState.phase = .holding ∧ p = s.live)) : s.countZero p = s := by
  unfold State.countZero
  cases hps : s.planeState with
  | draining => exact if_neg fun ho => hd ⟨by rw [hps, PlaneState.phase], ho⟩
  | holding _ _ => exact if_neg fun hl => hh ⟨by rw [hps, PlaneState.phase], hl⟩
  | steady => rfl
  | editing _ _ => rfl

theorem exec_flushReport_none (hp : s.pwronN = true) (hf : s.flushReports[m] = 0) :
    exec (.flushReport m) s = .next s := by
  have arm : exec (.flushReport m) s = execFlushReport m s := rfl
  rw [arm, execFlushReport, takeEvent_on hp, if_pos hf]

theorem exec_flushReport_sent (hp : s.pwronN = true) (hf : 0 < s.flushReports[m]) :
    exec (.flushReport m) s = .next (State.takeFlushReport
      { s with flushReports := s.flushReports.set m (s.flushReports[m] - 1) } m) := by
  have arm : exec (.flushReport m) s = execFlushReport m s := rfl
  rw [arm, execFlushReport, takeEvent_on hp, if_neg (Nat.pos_iff_ne_zero.mp hf)]

theorem State.takeFlushReport_other (hh : s.planeState.holder ≠ some m) : s.takeFlushReport m = s := by
  unfold State.takeFlushReport
  cases hps : s.planeState with
  | steady => rfl
  | draining => rfl
  | editing k _ => exact if_neg (by simpa [hps, PlaneState.holder] using hh)
  | holding k _ => exact if_neg (by simpa [hps, PlaneState.holder] using hh)

theorem State.takeFlushReport_editing (hs : s.planeState = .editing m t) :
    s.takeFlushReport m = { s with planeState := .steady } := by
  simp only [State.takeFlushReport, hs, if_true]

theorem State.takeFlushReport_holding (hs : s.planeState = .holding m t) :
    s.takeFlushReport m = State.resumeHeads
      (State.notifyAll { s with planeState := .steady } (fun a => s.isAdmin a && a != m)
        (.switchAbandoned .requesterLost s.generation)) := by
  simp only [State.takeFlushReport, hs, if_true]

end PlaneEvents

/-- Settles O32: each expiry by whether its timer runs. -/
theorem planeTimerExpiries : Obligations.PlaneTimerExpiries := by
  refine fun s hp => ⟨fun h t hs => exec_leaseTimerExpiry_editing hp hs, exec_leaseTimerExpiry_other hp,
    fun h t hs => ?_, exec_drainLimitExpiry_other hp⟩
  obtain ⟨order, perm, resumed⟩ := s.backToEditing_advanced hp t.expiry h
  exact ⟨order, perm, by rw [exec_drainLimitExpiry_holding hp hs, resumed]; rfl⟩

/-- Settles O33: by the count that is left and the Plane Controller's state. -/
theorem planeCountDecrement : Obligations.PlaneCountDecrement := by
  refine fun p s hp => ⟨exec_planeCountDecrement_none hp, fun hd hc => ?_, fun hd hn => ?_,
    fun hd hc hs ho => ?_, fun hd hc hs hl => ?_⟩
  · rw [exec_planeCountDecrement_sent hp hd, if_neg (by omega)]
    rfl
  · rw [exec_planeCountDecrement_sent hp hd]
    have stays : (s.decremented p).countZero p = s.decremented p :=
      State.countZero_other (s := s.decremented p) hn.1 hn.2
    rw [stays, ite_self]
    rfl
  · rw [exec_planeCountDecrement_sent hp hd, if_pos (by omega),
      State.countZero_draining (s := s.decremented p) hs ho]
    rfl
  · rw [exec_planeCountDecrement_sent hp hd, if_pos (by omega),
      State.countZero_holding (s := s.decremented p) hs hl, State.completeSwitch_eq]
    obtain ⟨order, perm, resumed⟩ :=
      State.resumeHeads_resumed (s := (s.decremented p).flippedAndSettled) hp
    exact ⟨order, perm, by rw [resumed]; rfl⟩

/-- Settles O34: by whether the flushed master holds the lease. -/
theorem flushReportEndsTheLease : Obligations.FlushReportEndsTheLease := by
  refine fun m s hp => ⟨exec_flushReport_none hp, fun hf => ⟨fun hh => ?_, fun t hs => ?_, fun t hs => ?_⟩⟩
  all_goals rw [exec_flushReport_sent hp hf]
  · rw [State.takeFlushReport_other (by exact hh)]
  · rw [State.takeFlushReport_editing (by exact hs)]
  · rw [State.takeFlushReport_holding (by exact hs)]
    obtain ⟨order, perm, resumed⟩ := State.resumeHeads_resumed (s := State.notifyAll
      { s with planeState := .steady, flushReports := s.flushReports.set m (s.flushReports[m] - 1) }
      (fun a => s.isAdmin a && a != m) (.switchAbandoned .requesterLost s.generation)) hp
    refine ⟨order, perm, resumed ▸ ?_⟩
    simp only [State.notifyAll, Bool.and_eq_true, bne_iff_ne]

end Sys2Proof.Machine

namespace Sys2Proof.Machine

/-! ### Target links (R116 to R121, R127) -/

section TargetLinks

variable {s : State} {t : Target} {posted request : Byte}

theorem exec_targetLinkDetected (hp : s.pwronN = true) : exec (.targetLinkDetected t) s = .next
    (if (s.target t).state = .down then s.modTarget t fun p => { p with state := .training } else s) := by
  have arm : exec (.targetLinkDetected t) s = execTargetLinkDetected t s := rfl
  rw [arm, execTargetLinkDetected, takeEvent_on hp]

theorem exec_targetLinkLost_up (hp : s.pwronN = true) (hs : (s.target t).state = .up) :
    exec (.targetLinkLost t) s = .next (s.leaveUp t .linkLost) := by
  have arm : exec (.targetLinkLost t) s = execTargetLinkLost t s := rfl
  rw [arm, execTargetLinkLost, takeEvent_on hp]
  simp only [hs]

theorem exec_targetLinkLost_training (hp : s.pwronN = true) (hs : (s.target t).state = .training) :
    exec (.targetLinkLost t) s = .next ((s.modTarget t fun p => { p with state := .down }).notifyAll
      (fun _ => true) (.targetDown t .linkLost .training)) := by
  have arm : exec (.targetLinkLost t) s = execTargetLinkLost t s := rfl
  rw [arm, execTargetLinkLost, takeEvent_on hp]
  simp only [hs]
  rfl

theorem exec_targetLinkLost_noLink (hp : s.pwronN = true)
    (hs : (s.target t).state = .down ∨ (s.target t).state = .absent) :
    exec (.targetLinkLost t) s = .next s := by
  have arm : exec (.targetLinkLost t) s = execTargetLinkLost t s := rfl
  rw [arm, execTargetLinkLost, takeEvent_on hp]
  rcases hs with hs | hs <;> simp only [hs]

theorem exec_tReady_training (hp : s.pwronN = true) (hs : (s.target t).state = .training) :
    exec (.tReady t posted request) s = .next
      (if (1 ≤ posted.toNat ∧ posted.toNat ≤ 32) ∧ (1 ≤ request.toNat ∧ request.toNat ≤ 32) then
        (s.modTarget t fun p => { p with state := .up, posted := .grant posted.toNat,
                                         request := .grant request.toNat }).notifyAll
          (fun _ => true) (.targetUp t posted.toNat request.toNat)
      else s.countCreditFault t) := by
  have arm : exec (.tReady t posted request) s = execTReady t posted request s := rfl
  rw [arm, execTReady, takeEvent_on hp]
  simp only [hs]

theorem exec_tCredit_training (hp : s.pwronN = true) (hs : (s.target t).state = .training) :
    exec (.tCredit t posted request) s = .next (s.countCreditFault t) := by
  have arm : exec (.tCredit t posted request) s = execTCredit t posted request s := rfl
  rw [arm, execTCredit, takeEvent_on hp]
  simp only [hs]

/-- The credits of both classes returned to a port (R121). -/
def State.creditsReturned (s : State) (t : Target) (posted request : Nat) : State :=
  s.modTarget t fun p =>
    { p with posted := p.posted.restore posted, request := p.request.restore request }

theorem exec_tCredit_up (hp : s.pwronN = true) (hs : (s.target t).state = .up) :
    exec (.tCredit t posted request) s = .next
      (if (s.target t).posted.inUse < posted.toNat ∨ (s.target t).request.inUse < request.toNat then
        (s.creditsReturned t posted.toNat request.toNat).countCreditFault t
      else s.creditsReturned t posted.toNat request.toNat) := by
  have arm : exec (.tCredit t posted request) s = execTCredit t posted request s := rfl
  rw [arm, execTCredit, takeEvent_on hp]
  simp only [hs]
  rfl

end TargetLinks

/-- Settles O37: each event of a target link by the port's state. -/
theorem targetLinkFoundAndLost : Obligations.TargetLinkFoundAndLost := by
  refine fun t s hp => ⟨fun hs => ?_, fun hs => ?_, fun hs hl hpr =>
    ⟨_, State.leaveUp_leftUp hl hpr t .linkLost, exec_targetLinkLost_up hp hs⟩,
    exec_targetLinkLost_training hp, exec_targetLinkLost_noLink hp⟩
  · rw [exec_targetLinkDetected hp, if_pos hs]
  · rw [exec_targetLinkDetected hp, if_neg hs]

/-- Settles O39: each credit message by the port's state and its counts. -/
theorem creditMessagesOfATarget : Obligations.CreditMessagesOfATarget := by
  refine fun t posted request s hp => ⟨fun hs => ⟨fun p1 p2 r1 r2 => ?_, fun hbad => ?_, ?_⟩,
    fun hs => ⟨fun hposted hrequest => ?_, fun hexcess => ?_⟩⟩
  · rw [exec_tReady_training hp hs, if_pos ⟨⟨p1, p2⟩, r1, r2⟩]
    rfl
  · rw [exec_tReady_training hp hs, if_neg (by omega)]
    rfl
  · exact exec_tCredit_training hp hs
  · rw [exec_tCredit_up hp hs, if_neg (by omega)]
    rfl
  · rw [exec_tCredit_up hp hs, if_pos hexcess]
    rfl

/-! ### What takes an answer (R78, R118) -/

section Answers

variable {s : State} {t : Target} {tag : Byte} {a : Answer} {i : OrtIndex} {u : OrtUse}
  {act : OrtIndex → OrtUse → State}

theorem State.answer_training (hs : (s.target t).state = .training) :
    s.answer t tag a act = s.countStale t := by
  simp only [State.answer, hs]

theorem State.answer_noLink (hs : (s.target t).state = .down ∨ (s.target t).state = .absent) :
    s.answer t tag a act = s := by
  rcases hs with hs | hs <;> simp only [State.answer, hs]

theorem State.answer_stale (hs : (s.target t).state = .up) (ht : s.taker t tag a = .stale) :
    s.answer t tag a act = s.countStale t := by
  simp only [State.answer, hs, ht]

theorem State.answer_issued (hs : (s.target t).state = .up) (ht : s.taker t tag a = .issued i u) :
    s.answer t tag a act = act i u := by
  simp only [State.answer, hs, ht]

theorem State.answer_lapsed (hs : (s.target t).state = .up) (ht : s.taker t tag a = .lapsed i u) :
    s.answer t tag a act = s.clearEntry i u := by
  simp only [State.answer, hs, ht]

theorem State.taker_free (hu : (s.entry (targetTagIndex tag)).use = none) :
    s.taker t tag a = .stale := by
  simp only [State.taker, hu]

theorem State.taker_notNamed (hu : (s.entry (targetTagIndex tag)).use = some u)
    (hn : ¬((s.entry (targetTagIndex tag)).reuse = targetTagReuse tag ∧ u.target = t)) :
    s.taker t tag a = .stale := by
  simp only [State.taker, hu, if_neg hn]

theorem State.taker_inLane (hu : (s.entry (targetTagIndex tag)).use = some u)
    (hl : u.phase.inLane = true) : s.taker t tag a = .stale := by
  simp only [State.taker, hu]
  cases hph : u.phase with
  | waiting d => simp only [ite_self]
  | backoff d b => simp only [ite_self]
  | issued d => rw [hph] at hl; cases hl
  | lapsed l => rw [hph] at hl; cases hl

theorem State.taker_unfit (hu : (s.entry (targetTagIndex tag)).use = some u)
    (hi : u.phase.isIssued = true) (hf : a.fits u.kind = false) : s.taker t tag a = .stale := by
  simp only [State.taker, hu]
  cases hph : u.phase with
  | issued d => simp only [hf, Bool.false_eq_true, if_false, ite_self]
  | waiting d => rw [hph] at hi; cases hi
  | backoff d b => rw [hph] at hi; cases hi
  | lapsed l => rw [hph] at hi; cases hi

theorem State.taker_ofLapsed (hu : (s.entry (targetTagIndex tag)).use = some u)
    (hn : (s.entry (targetTagIndex tag)).reuse = targetTagReuse tag ∧ u.target = t)
    (hl : u.phase.isLapsed = true) : s.taker t tag a = .lapsed (targetTagIndex tag) u := by
  simp only [State.taker, hu, if_pos hn]
  cases hph : u.phase with
  | lapsed l => rfl
  | waiting d => rw [hph] at hl; cases hl
  | backoff d b => rw [hph] at hl; cases hl
  | issued d => rw [hph] at hl; cases hl

/-- An answer that fits is taken by the ISSUED entry that its tag names. -/
theorem State.Answers.taker (h : s.Answers t tag i u) (hf : a.fits u.kind = true) :
    s.taker t tag a = .issued i u := by
  obtain ⟨_, _, hu, hi, ht, rfl⟩ := h
  unfold State.taker
  rw [targetTagIndex_targetTag, targetTagReuse_targetTag]
  simp only [hu, ht, and_self, if_true]
  cases hph : u.phase with
  | issued d => simp only [hf, if_true]
  | waiting d => rw [hph] at hi; cases hi
  | backoff d b => rw [hph] at hi; cases hi
  | lapsed l => rw [hph] at hi; cases hi

theorem State.Answers.answer (h : s.Answers t tag i u) (hf : a.fits u.kind = true) :
    s.answer t tag a act = act i u := State.answer_issued h.2.1 (h.taker hf)

/-! ### The four answers (R79 to R82) -/

variable {status : Byte} {data : List Byte}

theorem exec_tComplete (hp : s.pwronN = true) (hd : data.length ≤ 256) :
    exec (.tComplete t tag status data) s = .next
      (s.answer t tag .complete fun i u => s.complete i u status data) := by
  have arm : exec (.tComplete t tag status data) s = execTComplete t tag status data s := rfl
  rw [arm, execTComplete, takeEvent_on hp, if_neg (Nat.not_lt.mpr hd)]

theorem exec_tAccept (hp : s.pwronN = true) : exec (.tAccept t tag status) s = .next
    (s.answer t tag .accept fun i u =>
      if u.failureReporting then (s.retire i u).fenceReport u.master i false else s.retire i u) := by
  have arm : exec (.tAccept t tag status) s = execTAccept t tag status s := rfl
  rw [arm, execTAccept, takeEvent_on hp]

theorem exec_tReject (hp : s.pwronN = true) : exec (.tReject t tag status) s = .next
    (s.answer t tag .reject fun i u => s.failEntry i u .targetReject) := by
  have arm : exec (.tReject t tag status) s = execTReject t tag status s := rfl
  rw [arm, execTReject, takeEvent_on hp]

theorem exec_tRetry (hp : s.pwronN = true) : exec (.tRetry t tag) s = .next
    (s.answer t tag .retry fun i u => s.retry i u) := by
  have arm : exec (.tRetry t tag) s = execTRetry t tag s := rfl
  rw [arm, execTRetry, takeEvent_on hp]

/-- An entry retires and fails, with its promised slot RESERVED (R75, R89, R90). -/
theorem State.failEntry_eq (st : Status)
    (h : u.responseOwed = true → .ort i ∈ (s.port u.master).resp.reserved) :
    s.failEntry i u st = (s.retired i u).failureReported i u st := by
  rw [State.failEntry, State.retire_eq]
  exact State.reportFailure_eq (s.retired i u) i u st h

theorem completeFits_iff : completeFits u status data = true ↔
    status.toNat = 0 ∧ data.length = if u.kind = .read then u.length else 0 := by
  have zero : status = 0 ↔ status.toNat = 0 := BitVec.toNat_inj.symm
  rw [completeFits, Bool.and_eq_true, beq_iff_eq, zero]
  by_cases hk : u.kind = .read
  · simp only [if_pos hk, beq_iff_eq]
  · simp only [if_neg hk, List.isEmpty_iff, List.length_eq_zero_iff]

theorem State.complete_eq (ho : u.responseOwed = true)
    (hr : .ort i ∈ (s.port u.master).resp.reserved) : s.complete i u status data =
      (s.retired i u).answered i u (if completeFits u status data = true then .ok else .targetError)
        (if completeFits u status data = true then data else []) := by
  simp only [State.complete, ho, if_true, State.retire_eq]
  exact State.respond_eq (s.retired i u) i u _ _ hr

/-- With budget and lane room left the entry goes to BACKOFF at the head of its lane (R81, R82). -/
theorem State.retry_backsOff {d : Nat} (hph : u.phase = .issued d)
    (hb : u.retries < (s.window u.plane u.window).retryBudget.val)
    (hl : (s.lane u.target u.master).length < 16) : s.retry i u =
      (s.setLane u.target u.master (i :: s.lane u.target u.master)).setUse i (some { u with
        phase := .backoff d (s.now + min (4 * 2 ^ u.retries) 512), retries := u.retries + 1 }) := by
  simp only [State.retry, hb, hl, and_self, if_true, hph]
  rfl

theorem State.retry_fails
    (h : (s.window u.plane u.window).retryBudget.val ≤ u.retries ∨
      16 ≤ (s.lane u.target u.master).length) :
    s.retry i u = s.failEntry i u .retryExhausted := by
  unfold State.retry
  dsimp only
  rw [if_neg (by omega)]

theorem Answer.fits_writeP {k : Kind} (hk : k = .writeP) : Answer.fits .accept k = true ∧
    Answer.fits .reject k = true := by
  subst hk
  exact ⟨rfl, rfl⟩

theorem Answer.fits_complete {k : Kind} (hk : k ≠ .writeP) : Answer.fits .complete k = true := by
  cases k with
  | writeP => exact absurd rfl hk
  | read => rfl
  | writeNp => rfl

end Answers

/-- Settles O41: the entry retires and its slot is filled. -/
theorem completionRetiresTheEntry : Obligations.CompletionRetiresTheEntry := by
  intro t tag status data i u s hd h hk ho hr
  rw [exec_tComplete h.1 hd, h.answer (Answer.fits_complete hk), State.complete_eq ho hr]
  simp only [completeFits_iff]

/-- Settles O42: a posted write retires as delivered or as failed. -/
theorem postedAnswersRetireTheEntry : Obligations.PostedAnswersRetireTheEntry := by
  intro t tag status i u s h hk
  obtain ⟨accepts, rejects⟩ := Answer.fits_writeP hk
  have failed : s.failEntry i u .targetReject = (s.retired i u).failureReported i u .targetReject := by
    rw [State.failEntry, State.retire_eq, State.reportFailure, State.failureReported, if_pos hk, if_pos hk]
  refine ⟨fun hf => ?_, fun hf => ?_, ?_⟩
  · rw [exec_tAccept h.1, h.answer accepts, State.retire_eq, if_pos hf]
  · rw [exec_tAccept h.1, h.answer accepts, State.retire_eq, hf, if_neg (by simp)]
  · rw [exec_tReject h.1, h.answer rejects, failed]

/-- Settles O43: by whether budget and lane room are left. -/
theorem retryBacksOffOrFails : Obligations.RetryBacksOffOrFails := by
  intro t tag i u d s h hph hr
  have fits : Answer.fits .retry u.kind = true := rfl
  obtain ⟨hp, _, _, _, rfl, _⟩ := id h
  refine ⟨fun hb hl => ?_, fun hno => ?_⟩
  · rw [exec_tRetry hp, h.answer fits, State.retry_backsOff hph hb hl]
    rfl
  · rw [exec_tRetry hp, h.answer fits, State.retry_fails hno, State.failEntry_eq _ hr]

section Strays

variable {s : State} {t : Target} {tag : Byte} {fits : Kind → Bool} {c : Instr} {frame : List Byte}

/-- Each of the four answers goes through the taking of answers, and fits the kinds that its own rule
names (R78). -/
theorem exec_answer (hp : s.pwronN = true)
    (hc : (∃ status data, data.length ≤ 256 ∧ c = .tComplete t tag status data ∧
        fits = fun k => k != .writeP) ∨
      (∃ status, c = .tAccept t tag status ∧ fits = fun k => k == .writeP) ∨
      (∃ status, c = .tReject t tag status ∧ fits = fun k => k == .writeP) ∨
      (c = .tRetry t tag ∧ fits = fun _ => true)) :
    ∃ a act, exec c s = .next (s.answer t tag a act) ∧ ∀ k, a.fits k = fits k := by
  obtain ⟨status, data, hd, rfl, rfl⟩ | ⟨status, rfl, rfl⟩ | ⟨status, rfl, rfl⟩ | ⟨rfl, rfl⟩ := hc
  · exact ⟨_, _, exec_tComplete hp hd, fun k => by cases k <;> rfl⟩
  · exact ⟨_, _, exec_tAccept hp, fun k => by cases k <;> rfl⟩
  · exact ⟨_, _, exec_tReject hp, fun k => by cases k <;> rfl⟩
  · exact ⟨_, _, exec_tRetry hp, fun k => by cases k <;> rfl⟩

theorem exec_malformedTargetFrame (hp : s.pwronN = true)
    (hf : decodeTargetFrame t frame = .malformedTargetFrame t frame)
    (hs : (s.target t).state = .up ∨ (s.target t).state = .training) :
    exec (.malformedTargetFrame t frame) s = .next
      (if frameCountsCreditFault frame then s.countCreditFault t else s.countStale t) := by
  have arm : exec (.malformedTargetFrame t frame) s = execMalformedTargetFrame t frame s := rfl
  rw [arm, execMalformedTargetFrame, takeEvent_on hp, if_pos hf, State.malformedTarget]
  rcases hs with hs | hs <;> simp only [hs]

theorem frameCountsCreditFault_of_credit (h : frame.head? = some 0x20 ∨ frame.head? = some 0x21) :
    frameCountsCreditFault frame = true := by
  rcases h with h | h <;> simp [frameCountsCreditFault, h]

theorem frameCountsCreditFault_of_other (h0 : frame.head? ≠ some 0x20) (h1 : frame.head? ≠ some 0x21) :
    frameCountsCreditFault frame = false := by
  unfold frameCountsCreditFault
  split
  · next h => exact absurd h h0
  · next h => exact absurd h h1
  · rfl

end Strays

/-- Settles O44: by the port's state, and in UP by what the tag names. -/
theorem staleLapsedAndMalformedAnswers : Obligations.StaleLapsedAndMalformedAnswers := by
  intro c t tag fits s hp hc
  obtain ⟨a, act, run, hfits⟩ := exec_answer hp hc
  refine ⟨fun hs => ?_, fun hs => ?_, fun hs => ⟨fun hu => ?_, fun u hu => ⟨fun hn => ?_, fun hr ht hl => ?_⟩⟩,
    fun frame hf hs => ⟨fun h => ?_, fun h0 h1 => ?_⟩⟩
  · rw [run, State.answer_training hs]
    rfl
  · rw [run, State.answer_noLink hs]
  · rw [run, State.answer_stale hs (State.taker_free hu)]
    rfl
  · have stale : s.taker t tag a = .stale := by
      rcases hn with hr | ht | hl | ⟨hi, hk⟩
      · exact State.taker_notNamed hu fun h => hr h.1
      · exact State.taker_notNamed hu fun h => ht h.2
      · exact State.taker_inLane hu hl
      · exact State.taker_unfit hu hi ((hfits u.kind).trans hk)
    rw [run, State.answer_stale hs stale]
    rfl
  · rw [run, State.answer_lapsed hs (State.taker_ofLapsed hu ⟨hr, ht⟩ hl)]
    rfl
  · rw [exec_malformedTargetFrame hp hf hs, if_pos (frameCountsCreditFault_of_credit h)]
    rfl
  · rw [exec_malformedTargetFrame hp hf hs, if_neg (by rw [frameCountsCreditFault_of_other h0 h1]; simp)]
    rfl

end Sys2Proof.Machine

namespace Sys2Proof.Machine

/-! ### The timers of entries (R76, R82 to R85) -/

section EntryTimers

variable {s : State} {i : OrtIndex} {u : OrtUse} {d b l : Nat}

theorem exec_deadlineExpiry_free (hp : s.pwronN = true) (hu : (s.entry i).use = none) :
    exec (.deadlineExpiry i) s = .next s := by
  have arm : exec (.deadlineExpiry i) s = execDeadlineExpiry i s := rfl
  rw [arm, execDeadlineExpiry, takeEvent_on hp]
  simp only [hu]

theorem exec_deadlineExpiry_stopped (hp : s.pwronN = true) (hu : (s.entry i).use = some u)
    (hd : u.phase.deadline? = none) : exec (.deadlineExpiry i) s = .next s := by
  have arm : exec (.deadlineExpiry i) s = execDeadlineExpiry i s := rfl
  rw [arm, execDeadlineExpiry, takeEvent_on hp]
  simp only [hu, hd]

theorem exec_deadlineExpiry_runs (hp : s.pwronN = true) (hu : (s.entry i).use = some u)
    (hd : u.phase.deadline? = some d) :
    exec (.deadlineExpiry i) s = .next ((s.advanceTo d).expire i u) := by
  have arm : exec (.deadlineExpiry i) s = execDeadlineExpiry i s := rfl
  rw [arm, execDeadlineExpiry, takeEvent_on hp]
  simp only [hu, hd]

theorem exec_lapseEnd_free (hp : s.pwronN = true) (hu : (s.entry i).use = none) :
    exec (.lapseEnd i) s = .next s := by
  have arm : exec (.lapseEnd i) s = execLapseEnd i s := rfl
  rw [arm, execLapseEnd, takeEvent_on hp]
  simp only [hu]

theorem exec_lapseEnd_stopped (hp : s.pwronN = true) (hu : (s.entry i).use = some u)
    (hl : u.phase.isLapsed = false) : exec (.lapseEnd i) s = .next s := by
  have arm : exec (.lapseEnd i) s = execLapseEnd i s := rfl
  rw [arm, execLapseEnd, takeEvent_on hp]
  have stopped : u.phase.lapseEnd? = none := by
    cases hph : u.phase with
    | lapsed l => rw [hph] at hl; cases hl
    | waiting d => rfl
    | issued d => rfl
    | backoff d b => rfl
  simp only [hu, stopped]

theorem exec_lapseEnd_runs (hp : s.pwronN = true) (hu : (s.entry i).use = some u)
    (hl : u.phase = .lapsed l) : exec (.lapseEnd i) s = .next ((s.advanceTo l).clearEntry i u) := by
  have arm : exec (.lapseEnd i) s = execLapseEnd i s := rfl
  rw [arm, execLapseEnd, takeEvent_on hp]
  simp only [hu, hl, OrtPhase.lapseEnd?]

theorem exec_backoffEnd_free (hp : s.pwronN = true) (hu : (s.entry i).use = none) :
    exec (.backoffEnd i) s = .next s := by
  have arm : exec (.backoffEnd i) s = execBackoffEnd i s := rfl
  rw [arm, execBackoffEnd, takeEvent_on hp]
  simp only [hu]

theorem exec_backoffEnd_stopped (hp : s.pwronN = true) (hu : (s.entry i).use = some u)
    (hb : u.phase.isBackoff = false) : exec (.backoffEnd i) s = .next s := by
  have arm : exec (.backoffEnd i) s = execBackoffEnd i s := rfl
  rw [arm, execBackoffEnd, takeEvent_on hp]
  simp only [hu]
  cases hph : u.phase with
  | backoff d b => rw [hph] at hb; cases hb
  | waiting d => rfl
  | issued d => rfl
  | lapsed l => rfl

theorem exec_backoffEnd_runs (hp : s.pwronN = true) (hu : (s.entry i).use = some u)
    (hb : u.phase = .backoff d b) : exec (.backoffEnd i) s =
      .next ((s.advanceTo b).setUse i (some { u with phase := .waiting d })) := by
  have arm : exec (.backoffEnd i) s = execBackoffEnd i s := rfl
  rw [arm, execBackoffEnd, takeEvent_on hp]
  simp only [hu, hb]

/-- The passing of time reserves and frees no slot. -/
theorem State.port_advanceTo_reserved (s : State) (d : Nat) (m : Master) :
    ((s.advanceTo d).port m).resp.reserved = (s.port m).resp.reserved := by
  rw [State.advanceTo, State.port_passTime]

/-- In WAITING and BACKOFF the entry retires with TIMEOUT (R83). -/
theorem State.expire_inLane (hl : u.phase.inLane = true)
    (hr : u.responseOwed = true → .ort i ∈ (s.port u.master).resp.reserved) :
    s.expire i u = (s.retired i u).failureReported i u .timeout := by
  have waits : u.phase.isIssued = false := by
    cases hph : u.phase with
    | waiting d => rfl
    | backoff d b => rfl
    | lapsed l => rfl
    | issued d => rw [hph] at hl; cases hl
  rw [State.expire, waits, if_neg (by simp), State.failEntry_eq _ hr]

/-- In ISSUED the entry becomes LAPSED (R84). -/
theorem State.expire_issued (hi : u.phase = .issued d)
    (hr : u.responseOwed = true → .ort i ∈ (s.port u.master).resp.reserved) :
    s.expire i u = (s.lapse i u).failureReported i u .timeout := by
  have issued : u.phase.isIssued = true := by rw [hi]; rfl
  rw [State.expire, if_pos issued]
  refine State.reportFailure_eq (s.lapse i u) i u .timeout fun ho => ?_
  rw [State.port_congr (State.lapse_masters s i u)]
  exact hr ho

theorem State.lapse_issued {n : Nat} (hi : u.phase = .issued d) (hn : s.now = n) : s.lapse i u =
    { s with
      ort := s.ort.set i { s.ort[i] with use := some { u with
        phase := .lapsed (n + s.classValue (s.window u.plane u.window).deadlineClass)
        blocks := 0
        data := []
        responseOwed := false } }
      freeBlocks := s.freeBlocks + u.blocks
      decrements := s.decrements.set u.plane (s.decrements[u.plane] + 1) } := by
  subst hn
  have issued : u.phase.inLane = false := by rw [hi]; rfl
  simp only [State.lapse, State.release, issued, Bool.false_eq_true, if_false]
  rfl

end EntryTimers

/-- Settles O45: each timer by the entry's phase. -/
theorem entryTimersExpire : Obligations.EntryTimersExpire := by
  refine fun i s hp => ⟨fun hu => ⟨exec_deadlineExpiry_free hp hu, exec_lapseEnd_free hp hu,
    exec_backoffEnd_free hp hu⟩, fun u hu hr => ?_⟩
  have promised (d : Nat) (ho : u.responseOwed = true) :
      .ort i ∈ ((s.advanceTo d).port u.master).resp.reserved := by
    rw [State.port_advanceTo_reserved]
    exact hr ho
  refine ⟨fun d hd hl => ?_, fun d hi => ?_, fun l hl => ⟨?_, ?_, ?_⟩, fun d b hb => ?_,
    exec_lapseEnd_stopped hp hu, exec_backoffEnd_stopped hp hu⟩
  · rw [exec_deadlineExpiry_runs hp hu hd, State.expire_inLane hl (promised d)]
  · rw [exec_deadlineExpiry_runs hp hu (d := d) (by rw [hi]; rfl),
      State.expire_issued hi (promised d), State.lapse_issued hi (s.advanceTo_now d)]
    rfl
  · exact exec_deadlineExpiry_stopped hp hu (by rw [hl]; rfl)
  · exact exec_backoffEnd_stopped hp hu (by rw [hl]; rfl)
  · rw [exec_lapseEnd_runs hp hu hl]
    rfl
  · rw [exec_backoffEnd_runs hp hu hb]
    rfl

/-! ### The stall timer (R148 to R150, R171) -/

section StallExpiry

variable {s : State} {m : Master}

theorem exec_stallExpiry_stopped (hp : s.pwronN = true) (hr : (s.port m).stallRuns ≠ true) :
    exec (.stallExpiry m) s = .next s := by
  have arm : exec (.stallExpiry m) s = execStallExpiry m s := rfl
  rw [arm, execStallExpiry, takeEvent_on hp, if_neg hr]

theorem State.passTime_zero (s : State) : s.passTime 0 = s := by
  have ports : ∀ m, (s.passTime 0).port m = s.port m := fun m => by simp [State.port_passTime]
  have masters : (s.passTime 0).masters = s.masters := by
    ext i hi : 1
    exact ports ⟨i, hi⟩
  have whole : s.passTime 0 = { s with masters := (s.passTime 0).masters } := rfl
  rw [whole, masters]

theorem exec_stallExpiry_now (hp : s.pwronN = true) (hr : (s.port m).stallRuns = true)
    (he : (s.port m).resp.stallElapsed = 1000 * (s.port m).resp.stallLimit) :
    exec (.stallExpiry m) s = .next
      ((s.flushPort m .quarantined).notifyAll (fun a => a != m) (.masterQuarantined m)) := by
  have arm : exec (.stallExpiry m) s = execStallExpiry m s := rfl
  rw [arm, execStallExpiry, takeEvent_on hp, if_pos hr]
  dsimp only
  rw [he, Nat.sub_self, State.passTime_zero]

end StallExpiry

/-- Settles O46: a stall timer that has reached its limit flushes and quarantines its port. -/
theorem stallExpiryQuarantinesThePort : Obligations.StallExpiryQuarantinesThePort := by
  refine fun m s hp hl => ⟨fun hn => exec_stallExpiry_stopped hp fun h => hn
    ((s.port m).stallRuns_iff.mp h), fun ha hc hw he => ?_⟩
  refine ⟨_, exec_stallExpiry_now hp ((s.port m).stallRuns_iff.mpr ⟨ha, hc, hw⟩) he, ?_, fun a hne => ?_,
    (State.flushPort_flushed hl m .quarantined).masters _, ?_⟩
  · rw [State.port_notifyAll, if_neg (by simp), State.flushPort_port, if_pos rfl]
    rfl
  · rw [State.port_notifyAll, if_pos (by simpa using hne), State.flushPort_port, if_neg hne]
  · simp

end Sys2Proof.Machine

namespace Sys2Proof.Machine

/-! ### The first element of a list that satisfies a property of what stands before it -/

section First

variable {α : Type} {P : List α → α → Prop} {before l rest : List α} {i k : α}

/-- `i` stands in `l` at the first place that satisfies `P`, which also reads what stands before it, in
`before` and in `l`. -/
def FirstIn (P : List α → α → Prop) (before l : List α) (i : α) : Prop :=
  ∃ ahead behind, l = ahead ++ i :: behind ∧ P (before ++ ahead) i ∧
    ∀ x j r, ahead = x ++ j :: r → ¬ P (before ++ x) j

/-- No place of `l` satisfies `P`. -/
def NoneIn (P : List α → α → Prop) (before l : List α) : Prop :=
  ∀ ahead i behind, l = ahead ++ i :: behind → ¬ P (before ++ ahead) i

theorem not_firstIn_nil : ¬ FirstIn P before [] i := by
  rintro ⟨ahead, behind, h, _⟩
  cases ahead <;> cases h

theorem noneIn_nil : NoneIn P before [] := by
  intro ahead i behind h
  cases ahead <;> cases h

/-- The first element satisfies `P`: it is the one found. -/
theorem firstIn_cons_of_pos (hk : P before k) : FirstIn P before (k :: rest) i ↔ k = i := by
  constructor
  · rintro ⟨ahead, behind, h, _, hfirst⟩
    cases ahead with
    | nil => cases h; rfl
    | cons j a =>
      cases h
      exact absurd (by simpa using hk) (hfirst [] k a rfl)
  · rintro rfl
    refine ⟨[], rest, rfl, by simpa using hk, fun x j r h => ?_⟩
    cases x <;> cases h

/-- The first element does not satisfy `P`: the search goes on behind it. -/
theorem firstIn_cons_of_neg (hk : ¬ P before k) :
    FirstIn P before (k :: rest) i ↔ FirstIn P (before ++ [k]) rest i := by
  constructor
  · rintro ⟨ahead, behind, h, hi, hfirst⟩
    cases ahead with
    | nil =>
      cases h
      exact absurd (by simpa using hi) hk
    | cons j a =>
      cases h
      refine ⟨a, behind, rfl, by simpa using hi, fun x j r e => ?_⟩
      simpa using hfirst (k :: x) j r (by rw [e]; rfl)
  · rintro ⟨ahead, behind, rfl, hi, hfirst⟩
    refine ⟨k :: ahead, behind, rfl, by simpa using hi, fun x j r h => ?_⟩
    cases x with
    | nil =>
      cases h
      simpa using hk
    | cons y x =>
      cases h
      simpa using hfirst x j r rfl

theorem noneIn_cons : NoneIn P before (k :: rest) ↔ ¬ P before k ∧ NoneIn P (before ++ [k]) rest := by
  constructor
  · intro h
    refine ⟨by simpa using h [] k rest rfl, fun ahead i behind e => ?_⟩
    simpa using h (k :: ahead) i behind (by rw [e]; rfl)
  · rintro ⟨hk, h⟩ ahead i behind e
    cases ahead with
    | nil => cases e; simpa using hk
    | cons j a => cases e; simpa using h a i behind rfl

end First

/-! ### Eligibility and the offer of a lane (R101 to R104) -/

section Offer

variable {s : State} {t : Target} {m : Master} {i : OrtIndex} {u : OrtUse}

theorem mayPass_iff (x y : OrderClass) :
    mayPass x y = true ↔ x = .relaxed ∨ (x = .posted ∧ y ≠ .posted) := by
  cases x <;> cases y <;> simp [mayPass]

/-- The entry at `i` may be issued to target `t` past the entries of `ahead` (R101 to R103). -/
def State.MayIssue (s : State) (t : Target) (ahead : List OrtIndex) (i : OrtIndex) : Prop :=
  ∃ u, (s.entry i).use = some u ∧ (∃ d, u.phase = .waiting d) ∧
    1 ≤ (if u.kind = .writeP then (s.target t).posted.held else (s.target t).request.held) ∧
    ∀ j v, j ∈ ahead → (s.entry j).use = some v →
      u.cls = .relaxed ∨ (u.cls = .posted ∧ v.cls ≠ .posted)

/-- `classes` are the classes of the entries of `ahead`. -/
def State.ClassesOf (s : State) (ahead : List OrtIndex) (classes : List OrderClass) : Prop :=
  ∀ c, c ∈ classes ↔ ∃ j ∈ ahead, ∃ v, (s.entry j).use = some v ∧ v.cls = c

theorem State.ClassesOf.cons {ahead : List OrtIndex} {classes : List OrderClass}
    (h : s.ClassesOf ahead classes) (hu : (s.entry i).use = some u) :
    s.ClassesOf (ahead ++ [i]) (u.cls :: classes) := by
  intro c
  rw [List.mem_cons, h c]
  constructor
  · rintro (rfl | ⟨j, hj, v, hv, e⟩)
    · exact ⟨i, by simp, u, hu, rfl⟩
    · exact ⟨j, List.mem_append_left _ hj, v, hv, e⟩
  · rintro ⟨j, hj, v, hv, e⟩
    rcases List.mem_append.mp hj with hj | hj
    · exact .inr ⟨j, hj, v, hv, e⟩
    · rw [List.mem_singleton.mp hj, hu] at hv
      cases hv
      exact .inl e.symm

theorem State.ClassesOf.eligible_iff {ahead : List OrtIndex} {classes : List OrderClass}
    (h : s.ClassesOf ahead classes) (hu : (s.entry i).use = some u) :
    u.eligible (s.target t) classes = true ↔ s.MayIssue t ahead i := by
  have credits : ((s.target t).creditsFor u.kind).held =
      if u.kind = .writeP then (s.target t).posted.held else (s.target t).request.held := by
    unfold TargetPort.creditsFor
    split <;> rfl
  have passes : (classes.all (mayPass u.cls) = true) ↔ ∀ j v, j ∈ ahead → (s.entry j).use = some v →
      u.cls = .relaxed ∨ (u.cls = .posted ∧ v.cls ≠ .posted) := by
    simp only [List.all_eq_true, h _, mayPass_iff]
    exact ⟨fun k j v hj hv => k v.cls ⟨j, hj, v, hv, rfl⟩, fun k c ⟨j, hj, v, hv, e⟩ => e ▸ k j v hj hv⟩
  simp only [OrtUse.eligible, Bool.and_eq_true, decide_eq_true_eq, u.phase.isWaiting_iff, credits, passes,
    and_assoc]
  constructor
  · exact fun k => ⟨u, hu, k⟩
  · rintro ⟨v, hv, k⟩
    rw [hu] at hv
    cases hv
    exact k

/-- The search of a lane finds the first entry that may be issued, and nothing if there is none (R104). -/
theorem State.firstEligible_iff {ahead : List OrtIndex} {classes : List OrderClass} {l : List OrtIndex}
    (h : s.ClassesOf ahead classes) (hl : ∀ j ∈ l, (s.entry j).use ≠ none) :
    (∀ i, s.firstEligible (s.target t) classes l = some i ↔ FirstIn (s.MayIssue t) ahead l i) ∧
    (s.firstEligible (s.target t) classes l = none ↔ NoneIn (s.MayIssue t) ahead l) := by
  induction l generalizing ahead classes with
  | nil => exact ⟨fun i => iff_of_false nofun not_firstIn_nil, iff_of_true rfl noneIn_nil⟩
  | cons k rest ih =>
    obtain ⟨u, hu⟩ := Option.ne_none_iff_exists'.mp (hl k List.mem_cons_self)
    have eligible := h.eligible_iff (t := t) hu
    simp only [State.firstEligible, hu]
    by_cases he : s.MayIssue t ahead k
    · simp only [eligible.mpr he, if_true, Option.some.injEq, firstIn_cons_of_pos he, implies_true,
        true_and, noneIn_cons, reduceCtorEq, he, not_true, false_and]
    · simp only [mt eligible.mp he, if_false, Bool.false_eq_true, firstIn_cons_of_neg he, noneIn_cons, he,
        not_false_iff, true_and]
      exact ih (h.cons hu) fun j hj => hl j (List.mem_cons_of_mem k hj)

end Offer

/-- Settles O35: by induction on the lane, with the entries already passed. -/
theorem laneOffersItsFirstEligibleEntry : Obligations.LaneOffersItsFirstEligibleEntry := by
  intro s t m hl
  have none : s.ClassesOf [] [] := fun c => by simp
  exact State.firstEligible_iff (t := t) none hl

/-! ### The grant (R105 to R108, R120, R123) -/

section Grant

variable {s : State} {t : Target} {m : Master} {i : OrtIndex} {u : OrtUse} {run : Nat}

theorem exec_grantEvent_none (hp : s.pwronN = true) (ha : s.arbitrate t = none) :
    exec (.grantEvent t) s = .next s := by
  have arm : exec (.grantEvent t) s = execGrantEvent t s := rfl
  rw [arm, execGrantEvent, takeEvent_on hp]
  simp only [ha]

theorem exec_grantEvent_issues (hp : s.pwronN = true) (ha : s.arbitrate t = some (m, i, run))
    (hu : (s.entry i).use = some u) : exec (.grantEvent t) s = .next (s.issue t m i run u) := by
  have arm : exec (.grantEvent t) s = execGrantEvent t s := rfl
  rw [arm, execGrantEvent, takeEvent_on hp]
  simp only [ha, hu]

theorem State.arbitrate_none (h : ∀ m, s.offer t m = none) : s.arbitrate t = none := by
  simp only [State.arbitrate, h, List.findSome?_eq_none_iff, Option.map_none, implies_true]

theorem State.arbitrate_run (hi : s.offer t (s.target t).pointer = some i)
    (hr : (s.target t).run < (s.limits (s.target t).pointer).weight) :
    s.arbitrate t = some ((s.target t).pointer, i, (s.target t).run + 1) := by
  simp only [State.arbitrate, hi, if_pos hr]

/-- The next run goes to the first master after the pointer's whose lane offers (R106). -/
theorem State.arbitrate_next {d : Fin 4}
    (hn : s.offer t (s.target t).pointer = none ∨
      (s.limits (s.target t).pointer).weight ≤ (s.target t).run)
    (hi : s.offer t ((s.target t).pointer + 1 + d) = some i)
    (hlt : ∀ e : Fin 4, e < d → s.offer t ((s.target t).pointer + 1 + e) = none) :
    s.arbitrate t = some ((s.target t).pointer + 1 + d, i, 1) := by
  have next : (cycleFrom ((s.target t).pointer + 1)).findSome?
      (fun m => (s.offer t m).map fun i => (m, i, 1)) = some ((s.target t).pointer + 1 + d, i, 1) := by
    rw [cycleFrom_eq, List.findSome?_map]
    refine findSome?_finRange (i := d) ?_ fun e he => ?_
    · simp only [Function.comp_apply, hi, Option.map_some]
    · simp only [Function.comp_apply, hlt e he, Option.map_none]
  unfold State.arbitrate
  dsimp only
  rw [next]
  rcases hn with hn | hn
  · rw [hn]
  · split
    · rw [if_neg (Nat.not_lt.mpr hn)]
    · rfl

theorem Kind.requestCode_eq (k : Kind) :
    k.requestCode = if k = .read then 0x01 else if k = .writeNp then 0x02 else 0x03 := by
  cases k <;> rfl

/-- The port after one credit of the entry's class has gone in use (R120). -/
theorem TargetPort.spend_eq (p : TargetPort) (k : Kind) : p.spend k =
    { p with
      posted := if k = .writeP then { p.posted with held := p.posted.held - 1, inUse := p.posted.inUse + 1 }
        else p.posted
      request := if k = .writeP then p.request
        else { p.request with held := p.request.held - 1, inUse := p.request.inUse + 1 } } := by
  by_cases hk : k = .writeP
  · simp only [TargetPort.spend, if_pos hk]
    rfl
  · simp only [TargetPort.spend, if_neg hk]
    rfl

/-- The issue of a WAITING entry, with its message as 11.3 lays it out (R108, R120, R123). -/
theorem State.issue_eq {d : Nat} (hd : u.phase = .waiting d) : s.issue t m i run u =
    { s with
      targetOut := s.targetOut.set t (s.targetOut[t] ++
        [.frame ([if u.kind = .read then 0x01 else if u.kind = .writeNp then 0x02 else 0x03,
            BitVec.ofNat 8 (4 * i.val + (s.entry i).reuse.toNat)] ++
          littleEndian 2 u.length ++ littleEndian 6 u.address.toNat ++ [0, 0] ++ u.data)])
      targets := s.targets.set t
        { s.targets[t] with
          posted := if u.kind = .writeP then
              { s.targets[t].posted with held := s.targets[t].posted.held - 1,
                                         inUse := s.targets[t].posted.inUse + 1 }
            else s.targets[t].posted
          request := if u.kind = .writeP then s.targets[t].request
            else { s.targets[t].request with held := s.targets[t].request.held - 1,
                                             inUse := s.targets[t].request.inUse + 1 }
          pointer := m
          run := run }
      lanes := s.lanes.set t (s.lanes[t].set m (s.lanes[t][m].erase i))
      ort := s.ort.set i { s.ort[i] with use := some { u with phase := .issued d } } } := by
  simp only [State.issue, hd, TargetPort.spend_eq, requestBytes, Kind.requestCode_eq, leBytes_eq]
  rfl

end Grant

/-- Settles O36: by which lane the Issue Arbiter chooses. -/
theorem grantIssuesTheOfferedEntry : Obligations.GrantIssuesTheOfferedEntry := by
  intro t s hp hl
  have issued {m : Master} {i : OrtIndex} {run : Nat} (ha : s.arbitrate t = some (m, i, run)) :
      ∃ u d, (s.entry i).use = some u ∧ u.phase = .waiting d ∧
        exec (.grantEvent t) s = .next (s.issue t m i run u) := by
    obtain ⟨u, d, hu, hd, _⟩ := State.arbitrate_offers ha
    exact ⟨u, d, hu, hd, exec_grantEvent_issues hp ha hu⟩
  refine ⟨fun hn => exec_grantEvent_none hp (State.arbitrate_none hn), fun i hi hr => ?_,
    fun hn d i hi hlt => ?_⟩
  · obtain ⟨u, w, hu, hw, granted⟩ := issued (State.arbitrate_run hi hr)
    exact ⟨u, w, hu, hw, by rw [granted, State.issue_eq hw]⟩
  · obtain ⟨u, w, hu, hw, granted⟩ := issued (State.arbitrate_next hn hi hlt)
    exact ⟨u, w, hu, hw, by rw [granted, State.issue_eq hw]⟩

end Sys2Proof.Machine

namespace Sys2Proof.Machine

/-! ### The bytes the part sends (11.1 to 11.4) -/

theorem setWidth_eq_ofNat {w : Nat} (v : BitVec w) : v.setWidth 8 = BitVec.ofNat 8 v.toNat := by
  apply BitVec.eq_of_toNat_eq
  simp

theorem tagByte_eq (tag : Tag) : tagByte tag = BitVec.ofNat 8 tag.toNat := setWidth_eq_ofNat tag

theorem bits2_eq (a b : Bool) : bits2 a b = (if a then 1 else 0) + (if b then 2 else 0) := by
  cases a <;> cases b <;> rfl

theorem masterOrNone_eq (h : Option Master) : masterOrNone h = holderByte h := by
  cases h <;> rfl

theorem toList_four {α : Type} (v : Vector α 4) : v.toList = [v[0], v[1], v[2], v[3]] := by
  apply List.ext_getElem
  · simp
  · intro i hi _
    have hi' : i < 4 := by simpa using hi
    match i, hi' with
    | 0, _ => simp
    | 1, _ => simp
    | 2, _ => simp
    | 3, _ => simp

theorem encodingsAreThoseOf11_1 : EncodingsAreThoseOf11_1 :=
  ⟨rfl, rfl, rfl, rfl, rfl, fun _ _ => rfl, rfl, rfl, rfl, rfl, rfl, rfl, rfl⟩

/-- A notice's frame is its kind and fields, with zeros up to 16 bytes (11.2). -/
theorem Notice.bytes_eq {n : Notice} {k : Nat} (hk : n.fields.length + k = 15) :
    n.bytes = [0x90] ++ n.fields ++ List.replicate k 0 := by
  rw [Notice.bytes]
  congr 2
  omega

theorem noticesAreLaidOut : NoticesAreLaidOut := by
  refine ⟨fun g p => ?_, fun g => ?_, fun reason g => ?_, fun g => ?_, fun tag t a len reason => ?_,
    fun m => ?_, fun t cause left hl => ?_, fun t p r => ?_, fun n => ?_⟩
  · rw [Notice.bytes_eq (k := 9) rfl, Notice.fields, leBytes_eq]
    rfl
  · rw [Notice.bytes_eq (k := 10) rfl, Notice.fields, leBytes_eq]
    rfl
  · rw [Notice.bytes_eq (k := 9) rfl, Notice.fields, leBytes_eq]
    cases reason <;> rfl
  · rw [Notice.bytes_eq (k := 10) rfl, Notice.fields, leBytes_eq]
    rfl
  · rw [Notice.bytes_eq (k := 2) rfl, Notice.fields, leBytes_eq, leBytes_eq, tagByte_eq]
    rfl
  · exact Notice.bytes_eq (k := 13) rfl
  · rw [Notice.bytes_eq (k := 11) rfl]
    cases left with
    | absent => exact absurd rfl hl
    | up => cases cause <;> rfl
    | training => cases cause <;> rfl
    | down => cases cause <;> rfl
  · exact Notice.bytes_eq (k := 11) rfl
  · rw [Notice.bytes_eq (k := 12) rfl, Notice.fields, leBytes_eq]
    rfl

theorem responsesAreLaidOut : ResponsesAreLaidOut := by
  refine ⟨fun tag st data => ?_, fun tag st => ?_, fun tag => ?_, fun tag n => ?_,
    fun tag op code record => ?_⟩
  all_goals simp only [Response.bytes, tagByte_eq, leBytes_eq]

theorem Window.bytes_eq (w : Window) : w.bytes = w.laidOut := by
  have translated : (if w.translation.isSome = true then 2 else 0 : Byte) =
      if w.translation = none then 0 else 2 := by
    cases w.translation <;> simp
  simp only [Window.bytes, Window.laidOut, leBytes_eq, bits2_eq, translated, byteOf]

theorem EntryItem.bytes_eq (e : EntryItem) : e.bytes = e.laidOut := by
  simp only [EntryItem.bytes, EntryItem.laidOut, leBytes_eq, bits2_eq, byteOf]

theorem Limits.bytes_eq (l : Limits) : l.bytes = l.laidOut := by
  simp only [Limits.bytes, Limits.laidOut, leBytes_eq, byteOf]

theorem statusRecordsAreLaidOut : StatusRecordsAreLaidOut := by
  refine ⟨fun r => ?_, fun r => ?_, fun r => ?_, fun r => ?_, fun r => ?_, fun r => ?_⟩
  · simp only [ResultRecord.bytes, PlaneStatus.bytes, leBytes_eq, masterOrNone_eq, byteOf]
  · simp only [ResultRecord.bytes, TargetStatus.bytes, Credits.bytes, toList_four, leBytes_eq, byteOf,
      List.map_cons, List.map_nil, List.cons_append, List.nil_append, List.append_assoc]
  · simp only [ResultRecord.bytes, SettingsReport.bytes, toList_four, List.flatMap_cons, List.flatMap_nil,
      Limits.bytes_eq, leBytes_eq, setWidth_eq_ofNat, List.append_assoc, List.append_nil]
  · have occupied : BitVec.ofNat 8 r.fenceOccupied.toNat = if r.fenceOccupied then 1 else 0 := by
      cases r.fenceOccupied <;> rfl
    have items : r.items.flatMap EntryItem.bytes = (r.items.map EntryItem.laidOut).flatten := by
      rw [funext EntryItem.bytes_eq, List.flatMap_def]
    simp only [ResultRecord.bytes, MasterStatus.bytes, leBytes_eq, bits2_eq, items, byteOf]
    rw [occupied]
  · simp only [ResultRecord.bytes, WindowReport.bytes, leBytes_eq, Window.bytes_eq, byteOf]
  · simp only [ResultRecord.bytes, ProbeReport.bytes, leBytes_eq, byteOf]

theorem listedRecordsArePacked : ListedRecordsArePacked := by
  refine ⟨rfl, fun op => rfl, rfl, fun i => rfl, fun reason index => rfl, fun ph g h => ?_,
    fun h left => ?_, fun h ms g p => ?_, fun g => leBytes_eq 4 _, fun p g => ?_, fun g => leBytes_eq 4 _,
    fun mode ph g p settled limit => ?_, fun i j => rfl, fun g ms => ?_, fun a b => ?_, fun a b => ?_,
    fun a b => ?_, fun m => rfl, fun t left => rfl⟩
  · simp only [ResultRecord.bytes, leBytes_eq, masterOrNone_eq]
  · simp only [ResultRecord.bytes, leBytes_eq, byteOf]
  · simp only [ResultRecord.bytes, leBytes_eq, byteOf]
  · simp only [ResultRecord.bytes, leBytes_eq, byteOf]
  · cases limit <;> simp only [ResultRecord.bytes, leBytes_eq, byteOf]
  · simp only [ResultRecord.bytes, leBytes_eq]
  · simp only [ResultRecord.bytes, leBytes_eq]
  · simp only [ResultRecord.bytes, leBytes_eq, byteOf]
  · simp only [ResultRecord.bytes, leBytes_eq, List.finRange_succ, List.finRange_zero]
    simp

end Sys2Proof.Machine

namespace Sys2Proof.Machine

/-! ### SEND_EVENT (R50, R143 to R146, R148) -/

section Send

variable {s : State} {m : Master} {p : MasterPort}

theorem exec_sendEvent_credits (hp : s.pwronN = true) (hc : (s.port m).sendChoice = .ingressCredit) :
    exec (.sendEvent m) s = .next ((s.modIngress m Ingress.sendCredits).putMaster m
      (.frame (ingressCreditBytes (s.port m).ingress.dataOwed (s.port m).ingress.controlOwed))) := by
  have arm : exec (.sendEvent m) s = execSendEvent m s := rfl
  rw [arm, execSendEvent, takeEvent_on hp]
  simp only [hc]

theorem exec_sendEvent_notice {n : Notice} (hp : s.pwronN = true) (hc : (s.port m).sendChoice = .notice n) :
    exec (.sendEvent m) s = .next ((s.modResp m fun r =>
      s.spendCredit m { r with notices := r.notices.tail }).putMaster m (.frame n.bytes)) := by
  have arm : exec (.sendEvent m) s = execSendEvent m s := rfl
  rw [arm, execSendEvent, takeEvent_on hp]
  simp only [hc]

theorem exec_sendEvent_response {x : Response} (hp : s.pwronN = true)
    (hc : (s.port m).sendChoice = .response x) : exec (.sendEvent m) s = .next ((s.modResp m fun r =>
      s.spendCredit m { r with filled := r.filled.tail }).putMaster m (.frame x.bytes)) := by
  have arm : exec (.sendEvent m) s = execSendEvent m s := rfl
  rw [arm, execSendEvent, takeEvent_on hp]
  simp only [hc]

theorem exec_sendEvent_nothing (hp : s.pwronN = true) (hc : (s.port m).sendChoice = .nothing) :
    exec (.sendEvent m) s = .next s := by
  have arm : exec (.sendEvent m) s = execSendEvent m s := rfl
  rw [arm, execSendEvent, takeEvent_on hp]
  simp only [hc]

theorem MasterPort.sendChoice_credits (hs : p.state ≠ .offline)
    (ho : 0 < p.ingress.dataOwed ∨ 0 < p.ingress.controlOwed) : p.sendChoice = .ingressCredit := by
  rw [MasterPort.sendChoice, if_neg hs, if_pos ho]

theorem MasterPort.sendChoice_offline (hs : p.state = .offline) : p.sendChoice = .nothing := by
  rw [MasterPort.sendChoice, if_pos hs]

section NoneOwed

variable (hd : p.ingress.dataOwed = 0) (hk : p.ingress.controlOwed = 0)

include hd hk

theorem MasterPort.sendChoice_notice (hs : p.state = .active) (hc : 0 < p.resp.credits) {n : Notice}
    {l : List Notice} (hn : p.resp.notices = n :: l) : p.sendChoice = .notice n := by
  simp only [MasterPort.sendChoice, hs, hd, hk, hc, hn, reduceCtorEq, lt_irrefl, or_self, if_false,
    and_self, if_true]

theorem MasterPort.sendChoice_response (hs : p.state = .active) (hc : 0 < p.resp.credits) {x : Response}
    {l : List Response} (hn : p.resp.notices = []) (hx : p.resp.filled = x :: l) :
    p.sendChoice = .response x := by
  simp only [MasterPort.sendChoice, hs, hd, hk, hc, hn, hx, reduceCtorEq, lt_irrefl, or_self, if_false,
    and_self, if_true]

theorem MasterPort.sendChoice_stalled (h : p.state ≠ .active ∨ p.resp.credits = 0) :
    p.sendChoice = .nothing := by
  have stalled : ¬(p.state = .active ∧ 0 < p.resp.credits) := fun k => h.elim (fun n => n k.1) (by omega)
  simp only [MasterPort.sendChoice, hd, hk, if_neg stalled, lt_irrefl, or_self, if_false, ite_self]

theorem MasterPort.sendChoice_empty (h : p.resp.notices = [] ∧ p.resp.filled = []) :
    p.sendChoice = .nothing := by
  simp only [MasterPort.sendChoice, hd, hk, h.1, h.2, lt_irrefl, or_self, if_false, ite_self]

end NoneOwed

/-- A port that spends a response credit on the oldest of what waits (R145, R148). -/
theorem State.spends_eq {f : ResponseUnit → ResponseUnit} {notices : List Notice} {filled : List Response}
    (hn : f (s.port m).resp =
      { (s.port m).resp with notices := notices, filled := filled }) (bytes : List Byte) :
    (s.modResp m fun r => s.spendCredit m (f r)).putMaster m (.frame bytes) =
      (s.modResp m fun r => { r with notices := notices, filled := filled, credits := r.credits - 1,
                                     stallElapsed := 0, stallLimit := (s.limits m).stall }).putMaster m
        (.frame bytes) := by
  refine congrArg (State.putMaster · m _) (State.modResp_congr ?_)
  rw [hn]
  rfl

end Send

/-- Settles O47: the layouts, then what the transmitter chooses. -/
theorem sendEventSendsTheFirstPresent : Obligations.SendEventSendsTheFirstPresent := by
  refine ⟨⟨encodingsAreThoseOf11_1, noticesAreLaidOut, responsesAreLaidOut, statusRecordsAreLaidOut,
    listedRecordsArePacked⟩, fun m s hp => ⟨fun hs ho => ?_, fun hs hd hk hc => ⟨fun n l hn => ?_,
      fun x l hn hx => ?_⟩, fun h => exec_sendEvent_nothing hp ?_⟩⟩
  · rw [exec_sendEvent_credits hp (MasterPort.sendChoice_credits hs ho)]
    rfl
  · rw [exec_sendEvent_notice hp (MasterPort.sendChoice_notice hd hk hs hc hn),
      State.spends_eq (notices := l) (filled := (s.port m).resp.filled) (by rw [hn]; rfl)]
    rfl
  · rw [exec_sendEvent_response hp (MasterPort.sendChoice_response hd hk hs hc hn hx),
      State.spends_eq (notices := []) (filled := l) (by rw [hx, ← hn]; rfl)]
    rfl
  · rcases h with hs | ⟨hd, hk, hs | hc | he⟩
    · exact MasterPort.sendChoice_offline hs
    · exact MasterPort.sendChoice_stalled hd hk (.inl hs)
    · exact MasterPort.sendChoice_stalled hd hk (.inr hc)
    · exact MasterPort.sendChoice_empty hd hk he

end Sys2Proof.Machine

namespace Sys2Proof.Machine

/-! ### Frames toward the part (11.1 to 11.3) -/

section Frames

variable {m : Master} {c : Instr} {frame : List Byte}

/-- What stands behind the tag of a READ or WRITE frame: length, address, two unread bytes, data (11.2). -/
def dataFields (len : LengthField) (addr : Address) (data : List Byte) : List Byte :=
  leBytes 2 len.toNat ++ leBytes 6 addr.toNat ++ [0, 0] ++ data

theorem dataFields_header_length (len : LengthField) (addr : Address) :
    (leBytes 2 len.toNat ++ leBytes 6 addr.toNat ++ [0, 0] : List Byte).length = 10 := by
  simp [leBytes_length]

theorem dataFields_length (len : LengthField) (addr : Address) (data : List Byte) :
    (dataFields len addr data).length = 10 + data.length := by
  rw [dataFields, List.length_append, dataFields_header_length]

theorem dataFields_drop (len : LengthField) (addr : Address) (data : List Byte) :
    (dataFields len addr data).drop 10 = data := by
  rw [dataFields, List.drop_append_of_le_length (dataFields_header_length len addr).ge,
    List.drop_of_length_le (dataFields_header_length len addr).le, List.nil_append]

theorem dataFields_len (len : LengthField) (addr : Address) (data : List Byte) :
    BitVec.ofNat 16 (leField (dataFields len addr data) 0 2) = len := by
  have field : leField (dataFields len addr data) 0 2 = len.toNat := by
    rw [dataFields, List.append_assoc, List.append_assoc]
    exact leField_leBytes [] _ 2 len.toNat 0 rfl len.isLt
  rw [field, BitVec.ofNat_toNat, BitVec.setWidth_eq]

theorem dataFields_addr (len : LengthField) (addr : Address) (data : List Byte) :
    BitVec.ofNat 48 (leField (dataFields len addr data) 2 6) = addr := by
  have field : leField (dataFields len addr data) 2 6 = addr.toNat := by
    rw [dataFields, List.append_assoc]
    exact leField_leBytes _ _ 6 addr.toNat 2 (leBytes_length 2 _) addr.isLt
  rw [field, BitVec.ofNat_toNat, BitVec.setWidth_eq]

theorem decodeMasterFrame_readFrame (m : Master) (tag : Tag) (len : LengthField) (addr : Address) :
    decodeMasterFrame m (0x01#8 :: tagByte tag :: dataFields len addr []) = .read m tag len addr := by
  rw [decodeMasterFrame_read m _ _ (dataFields_length len addr []), tagOf_tagByte, dataFields_len,
    dataFields_addr]

theorem decodeMasterFrame_writeFrame (m : Master) (tag : Tag) {len : LengthField} (addr : Address)
    {data : List Byte} (hf : writeDataFits len data = true) :
    decodeMasterFrame m (0x02#8 :: tagByte tag :: dataFields len addr data) =
      .write m tag len addr data := by
  have fits : 10 ≤ (dataFields len addr data).length ∧
      writeDataFits (BitVec.ofNat 16 (leField (dataFields len addr data) 0 2))
        ((dataFields len addr data).drop 10) = true := by
    rw [dataFields_length, dataFields_len, dataFields_drop]
    exact ⟨by omega, hf⟩
  rw [decodeMasterFrame_write m _ _ fits, tagOf_tagByte, dataFields_len, dataFields_addr, dataFields_drop]

theorem decodeMasterFrame_controlFrame (m : Master) (tag : Tag) (op : Byte) {args : List Byte}
    (ha : args.length ≤ 255) :
    decodeMasterFrame m (0x04#8 :: tagByte tag :: op :: BitVec.ofNat 8 args.length :: args) =
      .control m tag op args := by
  have count : args.length = (BitVec.ofNat 8 args.length).toNat := by
    rw [BitVec.toNat_ofNat]
    omega
  rw [decodeMasterFrame_control m _ op _ args count, tagOf_tagByte]

/-- The frame of a well-formed packet of a master link decodes to it. -/
theorem decodeMasterFrame_encode (hwf : c.wf = true) (hm : c.masterPort? = some m)
    (he : encodeMasterFrame c = some frame) : decodeMasterFrame m frame = c := by
  cases c with
  | read m' tag len addr =>
    cases hm
    cases he
    have form : (0x01#8 :: tagByte tag :: leBytes 2 len.toNat ++ leBytes 6 addr.toNat ++ [0, 0] : List Byte) =
        0x01#8 :: tagByte tag :: dataFields len addr [] := by
      rw [dataFields, List.append_nil]
      rfl
    rw [form, decodeMasterFrame_readFrame]
  | write m' tag len addr data =>
    cases hm
    cases he
    exact decodeMasterFrame_writeFrame m tag addr hwf
  | fence m' tag =>
    cases hm
    cases he
    rw [decodeMasterFrame_fence, tagOf_tagByte]
  | control m' tag op args =>
    cases hm
    cases he
    exact decodeMasterFrame_controlFrame m tag op (of_decide_eq_true hwf)
  | linkUp m' credits => cases hm; cases he; rfl
  | credit m' returned => cases hm; cases he; rfl
  | linkReset m' => cases hm; cases he; rfl
  | malformedMasterFrame m' bytes =>
    cases hm
    cases he
    exact eq_of_beq hwf
  | _ => cases he

theorem decodeTargetFrame_completeFrame (t : Target) (tag status : Byte) {data : List Byte}
    (hd : data.length ≤ 256) :
    decodeTargetFrame t (0x22#8 :: tag :: status :: 0 :: leBytes 2 data.length ++ data) =
      .tComplete t tag status data := by
  have size : leNat (leBytes 2 data.length) = data.length := by
    rw [leNat_leBytes]
    omega
  exact decodeTargetFrame_complete t tag status 0 (BitVec.ofNat 8 data.length)
    (BitVec.ofNat 8 (data.length / 256)) data ⟨size.le.trans hd, size.symm⟩

/-- The frame of a well-formed message of a target link decodes to it. -/
theorem decodeTargetFrame_encode (hwf : c.wf = true) (he : encodeTargetFrame c = some frame) :
    ∃ t, decodeTargetFrame t frame = c := by
  cases c with
  | tReady t posted request => cases he; exact ⟨t, rfl⟩
  | tCredit t posted request => cases he; exact ⟨t, rfl⟩
  | tComplete t tag status data =>
    cases he
    exact ⟨t, decodeTargetFrame_completeFrame t tag status (of_decide_eq_true hwf)⟩
  | tAccept t tag status => cases he; exact ⟨t, rfl⟩
  | tReject t tag status => cases he; exact ⟨t, rfl⟩
  | tRetry t tag => cases he; exact ⟨t, rfl⟩
  | malformedTargetFrame t bytes =>
    cases he
    exact ⟨t, eq_of_beq hwf⟩
  | _ => cases he

end Frames

/-- Settles O60: by the packet that the command is. -/
theorem framesDecodeToTheirPackets : Obligations.FramesDecodeToTheirPackets :=
  ⟨fun _ _ _ hwf hm he => decodeMasterFrame_encode hwf hm he,
    fun _ _ hwf he => decodeTargetFrame_encode hwf he⟩

end Sys2Proof.Machine
